-- ==== Sys2Proof/Word.lean ====
section
/-! DEFINITION. The plain values of the ports: bytes, failure codes, source words and symbols
(spec 00_scope.md R8, R9; 20_memory.md R51; 30_encoding.md R82). -/

namespace Sys2Proof

/-- A byte, bit 0 least significant (R8). -/
abbrev Byte := BitVec 8

/-- A read-failure code of the source (R84): an ERR_W-bit code the core carries and never interprets. -/
abbrev SrcErr := Nat

/-- The four formats of the opcode table (30_encoding.md R70, R80, R82, R86). -/
inductive Format where
  | hdr
  | cmd
  | src
  | rsp
  deriving DecidableEq, Repr

/-- A word the byte source answers a read with, `SRC = tag[1:0] || data[D-1:0]` (R82). The port has D data
wires, so a reader of `data` takes it modulo 2^D. -/
structure SrcWord where
  tag : BitVec 2
  data : Nat
  deriving DecidableEq, Repr

/-- A source symbol (R51). -/
inductive Symbol where
  | byte (b : Byte)
  | eof
  | fail (e : SrcErr)
  deriving DecidableEq, Repr

end Sys2Proof
end

