-- ==== Sys2Proof/Config.lean ====
section
/-! DEFINITION. The parameters of a hardware build (spec 00_scope.md R7) and the one free value. -/

namespace Sys2Proof

/-- The parameters the spec leaves OPEN (R7). `none` is the setting `unbounded`. They are a property of a build:
a field of State holds them, and no step writes it (log entry 1). -/
structure Config where
  /-- `MAX_NAL_BYTES`, the capacity of the slice buffer in bytes (92_eei_decisions.md D10). -/
  maxNalBytes : Option Nat
  /-- `SEQ_W`, the width in bits of the sequence-index counter (D11). -/
  seqW : Option Nat
  /-- `ERR_W`, the width in bits of a failure code (D4). -/
  errW : Nat
  deriving DecidableEq, Repr

/-- Both bounds unbounded, "which reproduces the source's software semantics exactly", and the 8-bit failure
code of the wire encoding (R7). -/
def Config.softwareSemantics : Config := { maxNalBytes := none, seqW := none, errW := 8 }

/-- The values R7 admits: a finite MAX_NAL_BYTES or SEQ_W is at least 1. -/
def Config.valid (c : Config) : Bool :=
  (match c.maxNalBytes with | none => true | some n => decide (1 ≤ n)) &&
  (match c.seqW with | none => true | some n => decide (1 ≤ n))

/-- `D = max(8, ERR_W)`, the width of a source word's data field (R82). -/
def Config.dataWidth (c : Config) : Nat := max 8 c.errW

/-- FREE VALUE (log entry 5). The failure code repeated by an instance that is FAILED although no code was
recorded, as a function of the number of responses already given; only states no run reaches use it (R35 (I6)). -/
opaque Config.unsetFailCode : Nat → SrcErr

end Sys2Proof
end

