-- ==== Sys2Proof/Syntax.lean ====
section
/-! DEFINITION. The instructions: one constructor per row of spec/opcode_table.json, in the table's order. -/

namespace Sys2Proof

/-- The operations of the core (00_scope.md R1): header types (HDR, `frrttttt`, R70; operands F and NRI), commands
(CMD, R80), source symbols by scanner phase and condition (SRC, R82; `b` the free low bits of the row's byte pattern, `e` the
failure code), and responses (RSP, R86; `info` the low byte of the header word). -/
inductive Instr where
  /-- NAL_TYPE_0 (R146) -/
  | nalType0 (f : Bool) (nri : BitVec 2)
  /-- NAL_TYPE_1 (R146) -/
  | nalType1 (f : Bool) (nri : BitVec 2)
  /-- NAL_TYPE_2 (R146) -/
  | nalType2 (f : Bool) (nri : BitVec 2)
  /-- NAL_TYPE_3 (R146) -/
  | nalType3 (f : Bool) (nri : BitVec 2)
  /-- NAL_TYPE_4 (R146) -/
  | nalType4 (f : Bool) (nri : BitVec 2)
  /-- NAL_TYPE_5 (R146) -/
  | nalType5 (f : Bool) (nri : BitVec 2)
  /-- NAL_TYPE_6 (R145) -/
  | nalType6 (f : Bool) (nri : BitVec 2)
  /-- NAL_TYPE_7 (R146) -/
  | nalType7 (f : Bool) (nri : BitVec 2)
  /-- NAL_TYPE_8 (R146) -/
  | nalType8 (f : Bool) (nri : BitVec 2)
  /-- NAL_TYPE_9 (R146) -/
  | nalType9 (f : Bool) (nri : BitVec 2)
  /-- NAL_TYPE_10 (R146) -/
  | nalType10 (f : Bool) (nri : BitVec 2)
  /-- NAL_TYPE_11 (R146) -/
  | nalType11 (f : Bool) (nri : BitVec 2)
  /-- NAL_TYPE_12 (R146) -/
  | nalType12 (f : Bool) (nri : BitVec 2)
  /-- NAL_TYPE_13 (R146) -/
  | nalType13 (f : Bool) (nri : BitVec 2)
  /-- NAL_TYPE_14 (R146) -/
  | nalType14 (f : Bool) (nri : BitVec 2)
  /-- NAL_TYPE_15 (R146) -/
  | nalType15 (f : Bool) (nri : BitVec 2)
  /-- NAL_TYPE_16 (R146) -/
  | nalType16 (f : Bool) (nri : BitVec 2)
  /-- NAL_TYPE_17 (R146) -/
  | nalType17 (f : Bool) (nri : BitVec 2)
  /-- NAL_TYPE_18 (R146) -/
  | nalType18 (f : Bool) (nri : BitVec 2)
  /-- NAL_TYPE_19 (R146) -/
  | nalType19 (f : Bool) (nri : BitVec 2)
  /-- NAL_TYPE_20 (R146) -/
  | nalType20 (f : Bool) (nri : BitVec 2)
  /-- NAL_TYPE_21 (R146) -/
  | nalType21 (f : Bool) (nri : BitVec 2)
  /-- NAL_TYPE_22 (R146) -/
  | nalType22 (f : Bool) (nri : BitVec 2)
  /-- NAL_TYPE_23 (R146) -/
  | nalType23 (f : Bool) (nri : BitVec 2)
  /-- NAL_TYPE_24 (R146) -/
  | nalType24 (f : Bool) (nri : BitVec 2)
  /-- NAL_TYPE_25 (R146) -/
  | nalType25 (f : Bool) (nri : BitVec 2)
  /-- NAL_TYPE_26 (R146) -/
  | nalType26 (f : Bool) (nri : BitVec 2)
  /-- NAL_TYPE_27 (R146) -/
  | nalType27 (f : Bool) (nri : BitVec 2)
  /-- NAL_TYPE_28 (R146) -/
  | nalType28 (f : Bool) (nri : BitVec 2)
  /-- NAL_TYPE_29 (R146) -/
  | nalType29 (f : Bool) (nri : BitVec 2)
  /-- NAL_TYPE_30 (R146) -/
  | nalType30 (f : Bool) (nri : BitVec 2)
  /-- NAL_TYPE_31 (R146) -/
  | nalType31 (f : Bool) (nri : BitVec 2)
  /-- NOP (R180) -/
  | nop
  /-- NEXT_UNIT (R171 to R176) -/
  | nextUnit
  /-- RESET (R178) -/
  | reset
  /-- CMD_RESERVED (R179) -/
  | cmdReserved
  /-- BYTE_ZERO.SEEK_FIRST (R101) -/
  | byteZeroSeekFirst
  /-- BYTE_ZERO.IN_UNIT (R110) -/
  | byteZeroInUnit
  /-- BYTE_ONE.SEEK_FIRST.START (R102) -/
  | byteOneSeekFirstStart
  /-- BYTE_ONE.SEEK_FIRST.NAS (R103) -/
  | byteOneSeekFirstNas
  /-- BYTE_ONE.IN_UNIT.DELIM (R111) -/
  | byteOneInUnitDelim
  /-- BYTE_ONE.IN_UNIT.PAYLOAD (R112) -/
  | byteOneInUnitPayload
  /-- BYTE_OTHER.SEEK_FIRST.02-03 (R104) -/
  | byteOtherSeekFirst02 (b : BitVec 1)
  /-- BYTE_OTHER.SEEK_FIRST.04-07 (R104) -/
  | byteOtherSeekFirst04 (b : BitVec 2)
  /-- BYTE_OTHER.SEEK_FIRST.08-0F (R104) -/
  | byteOtherSeekFirst08 (b : BitVec 3)
  /-- BYTE_OTHER.SEEK_FIRST.10-1F (R104) -/
  | byteOtherSeekFirst10 (b : BitVec 4)
  /-- BYTE_OTHER.SEEK_FIRST.20-3F (R104) -/
  | byteOtherSeekFirst20 (b : BitVec 5)
  /-- BYTE_OTHER.SEEK_FIRST.40-7F (R104) -/
  | byteOtherSeekFirst40 (b : BitVec 6)
  /-- BYTE_OTHER.SEEK_FIRST.80-FF (R104) -/
  | byteOtherSeekFirst80 (b : BitVec 7)
  /-- BYTE_OTHER.IN_UNIT.02-03 (R113) -/
  | byteOtherInUnit02 (b : BitVec 1)
  /-- BYTE_OTHER.IN_UNIT.04-07 (R113) -/
  | byteOtherInUnit04 (b : BitVec 2)
  /-- BYTE_OTHER.IN_UNIT.08-0F (R113) -/
  | byteOtherInUnit08 (b : BitVec 3)
  /-- BYTE_OTHER.IN_UNIT.10-1F (R113) -/
  | byteOtherInUnit10 (b : BitVec 4)
  /-- BYTE_OTHER.IN_UNIT.20-3F (R113) -/
  | byteOtherInUnit20 (b : BitVec 5)
  /-- BYTE_OTHER.IN_UNIT.40-7F (R113) -/
  | byteOtherInUnit40 (b : BitVec 6)
  /-- BYTE_OTHER.IN_UNIT.80-FF (R113) -/
  | byteOtherInUnit80 (b : BitVec 7)
  /-- EOF.SEEK_FIRST.EMPTY (R105) -/
  | eofSeekFirstEmpty
  /-- EOF.SEEK_FIRST.NAS (R106) -/
  | eofSeekFirstNas
  /-- EOF.IN_UNIT (R114) -/
  | eofInUnit
  /-- FAIL.SEEK_FIRST (R107) -/
  | failSeekFirst (e : SrcErr)
  /-- FAIL.IN_UNIT (R115) -/
  | failInUnit (e : SrcErr)
  /-- SRC_RESERVED (R85) -/
  | srcReserved
  /-- RSP_UNIT (R152) -/
  | rspUnit (info : BitVec 8)
  /-- RSP_END_OF_STREAM (R202) -/
  | rspEndOfStream
  /-- RSP_NOT_A_STREAM (R201) -/
  | rspNotAStream
  /-- RSP_SOURCE_READ_FAILURE (R203) -/
  | rspSourceReadFailure (info : BitVec 8)
  deriving DecidableEq, Repr

end Sys2Proof
end

