-- ==== Sys2Proof/WellFormed.lean ====
section
/-! DEFINITION. Well-formed instructions: the operands the encoding tables admit (spec 30_encoding.md). -/

namespace Sys2Proof

/-- A failure code is an ERR_W-bit code (R84), and the info byte of a SOURCE_READ_FAILURE word is the low 8 bits of one
(R86). Every other operand has exactly the width its row gives it, so its type says all there is to check.
DESIGN CHOICE (log entry 16): RSP_UNIT is well-formed with every info byte, one of type 6 included. -/
def Instr.wellFormed (cfg : Config) : Instr → Bool
  | .nalType0 _ _ => true
  | .nalType1 _ _ => true
  | .nalType2 _ _ => true
  | .nalType3 _ _ => true
  | .nalType4 _ _ => true
  | .nalType5 _ _ => true
  | .nalType6 _ _ => true
  | .nalType7 _ _ => true
  | .nalType8 _ _ => true
  | .nalType9 _ _ => true
  | .nalType10 _ _ => true
  | .nalType11 _ _ => true
  | .nalType12 _ _ => true
  | .nalType13 _ _ => true
  | .nalType14 _ _ => true
  | .nalType15 _ _ => true
  | .nalType16 _ _ => true
  | .nalType17 _ _ => true
  | .nalType18 _ _ => true
  | .nalType19 _ _ => true
  | .nalType20 _ _ => true
  | .nalType21 _ _ => true
  | .nalType22 _ _ => true
  | .nalType23 _ _ => true
  | .nalType24 _ _ => true
  | .nalType25 _ _ => true
  | .nalType26 _ _ => true
  | .nalType27 _ _ => true
  | .nalType28 _ _ => true
  | .nalType29 _ _ => true
  | .nalType30 _ _ => true
  | .nalType31 _ _ => true
  | .nop => true
  | .nextUnit => true
  | .reset => true
  | .cmdReserved => true
  | .byteZeroSeekFirst => true
  | .byteZeroInUnit => true
  | .byteOneSeekFirstStart => true
  | .byteOneSeekFirstNas => true
  | .byteOneInUnitDelim => true
  | .byteOneInUnitPayload => true
  | .byteOtherSeekFirst02 _ => true
  | .byteOtherSeekFirst04 _ => true
  | .byteOtherSeekFirst08 _ => true
  | .byteOtherSeekFirst10 _ => true
  | .byteOtherSeekFirst20 _ => true
  | .byteOtherSeekFirst40 _ => true
  | .byteOtherSeekFirst80 _ => true
  | .byteOtherInUnit02 _ => true
  | .byteOtherInUnit04 _ => true
  | .byteOtherInUnit08 _ => true
  | .byteOtherInUnit10 _ => true
  | .byteOtherInUnit20 _ => true
  | .byteOtherInUnit40 _ => true
  | .byteOtherInUnit80 _ => true
  | .eofSeekFirstEmpty => true
  | .eofSeekFirstNas => true
  | .eofInUnit => true
  | .failSeekFirst e => decide (e < 2 ^ cfg.errW)
  | .failInUnit e => decide (e < 2 ^ cfg.errW)
  | .srcReserved => true
  | .rspUnit _ => true
  | .rspEndOfStream => true
  | .rspNotAStream => true
  | .rspSourceReadFailure info => decide (info.toNat < 2 ^ cfg.errW)

end Sys2Proof
end

