-- ==== Sys2Proof/Decode.lean ====
section
/-! DEFINITION. The decoder, total on any word and rejecting by name, and after it the encoder (spec 30_encoding.md).
A source word decodes to the row whose condition on found_first and zrun holds (opcode_table.json "condition"; 40_scanner.md
R121), so the decoder takes those two values. -/

namespace Sys2Proof

/-! ## Header fields (R70, R71, R140) -/

/-- `F = h[7]` (R71). -/
def headerF (h : Byte) : Bool := h.getLsbD 7

/-- `NRI = h[6:5]` (R71). -/
def headerNri (h : Byte) : BitVec 2 := h.extractLsb' 5 2

/-- `TYPE = h[4:0]` (R71). -/
def headerType (h : Byte) : BitVec 5 := h.extractLsb' 0 5

/-- `DecodeHeader(h)`: the triple (F, NRI, TYPE) (41_nal_decoder.md R140). -/
def decodeHeaderFields (h : Byte) : Bool × BitVec 2 × BitVec 5 := (headerF h, headerNri h, headerType h)

/-- The header byte with the three fields, `frrttttt` (R70). -/
def headerByte (f : Bool) (nri : BitVec 2) (t : BitVec 5) : Byte := BitVec.ofBool f ++ nri ++ t

/-- A header byte as its NAL_TYPE row: the five type bits, bit 4 first, select one of 32 rows; no byte value is illegal
(R72, R73). -/
def decodeHeader (h : Byte) : Instr :=
  let f := headerF h
  let nri := headerNri h
  match h.getLsbD 4, h.getLsbD 3, h.getLsbD 2, h.getLsbD 1, h.getLsbD 0 with
  | false, false, false, false, false => .nalType0 f nri
  | false, false, false, false, true => .nalType1 f nri
  | false, false, false, true, false => .nalType2 f nri
  | false, false, false, true, true => .nalType3 f nri
  | false, false, true, false, false => .nalType4 f nri
  | false, false, true, false, true => .nalType5 f nri
  | false, false, true, true, false => .nalType6 f nri
  | false, false, true, true, true => .nalType7 f nri
  | false, true, false, false, false => .nalType8 f nri
  | false, true, false, false, true => .nalType9 f nri
  | false, true, false, true, false => .nalType10 f nri
  | false, true, false, true, true => .nalType11 f nri
  | false, true, true, false, false => .nalType12 f nri
  | false, true, true, false, true => .nalType13 f nri
  | false, true, true, true, false => .nalType14 f nri
  | false, true, true, true, true => .nalType15 f nri
  | true, false, false, false, false => .nalType16 f nri
  | true, false, false, false, true => .nalType17 f nri
  | true, false, false, true, false => .nalType18 f nri
  | true, false, false, true, true => .nalType19 f nri
  | true, false, true, false, false => .nalType20 f nri
  | true, false, true, false, true => .nalType21 f nri
  | true, false, true, true, false => .nalType22 f nri
  | true, false, true, true, true => .nalType23 f nri
  | true, true, false, false, false => .nalType24 f nri
  | true, true, false, false, true => .nalType25 f nri
  | true, true, false, true, false => .nalType26 f nri
  | true, true, false, true, true => .nalType27 f nri
  | true, true, true, false, false => .nalType28 f nri
  | true, true, true, false, true => .nalType29 f nri
  | true, true, true, true, false => .nalType30 f nri
  | true, true, true, true, true => .nalType31 f nri

/-! ## Command words (R80) -/

/-- A 2-bit command word (R80). -/
def decodeCommand (w : BitVec 2) : Instr :=
  match w.getLsbD 1, w.getLsbD 0 with
  | false, false => .nop
  | false, true => .nextUnit
  | true, false => .reset
  | true, true => .cmdReserved

/-! ## Source words (R82 to R85) -/

/-- The data field as the port's D wires carry it (R82). -/
def SrcWord.dataField (cfg : Config) (w : SrcWord) : Nat := w.data % 2 ^ cfg.dataWidth

/-- The symbol of a source word, none for a reserved word: tag 0b11, or a BYTE word with a data bit above bit 7 (R82 to R85).
The data of an EOF word is ignored, and a FAIL word's code is `data[ERR_W-1:0]`. -/
def SrcWord.symbol (cfg : Config) (w : SrcWord) : Option Symbol :=
  match w.tag.getLsbD 1, w.tag.getLsbD 0 with
  | false, false => if w.dataField cfg < 256 then some (.byte (BitVec.ofNat 8 (w.dataField cfg))) else none
  | false, true => some .eof
  | true, false => some (.fail (w.dataField cfg % 2 ^ cfg.errW))
  | true, true => none

/-- The row of a byte of class OTHER in phase SEEK_FIRST (R104): seven disjoint ranges. -/
def otherSeekFirst (b : Byte) : Instr :=
  if b.toNat < 4 then .byteOtherSeekFirst02 (b.extractLsb' 0 1)
  else if b.toNat < 8 then .byteOtherSeekFirst04 (b.extractLsb' 0 2)
  else if b.toNat < 16 then .byteOtherSeekFirst08 (b.extractLsb' 0 3)
  else if b.toNat < 32 then .byteOtherSeekFirst10 (b.extractLsb' 0 4)
  else if b.toNat < 64 then .byteOtherSeekFirst20 (b.extractLsb' 0 5)
  else if b.toNat < 128 then .byteOtherSeekFirst40 (b.extractLsb' 0 6)
  else .byteOtherSeekFirst80 (b.extractLsb' 0 7)

/-- The row of a byte of class OTHER in phase IN_UNIT (R113): seven disjoint ranges. -/
def otherInUnit (b : Byte) : Instr :=
  if b.toNat < 4 then .byteOtherInUnit02 (b.extractLsb' 0 1)
  else if b.toNat < 8 then .byteOtherInUnit04 (b.extractLsb' 0 2)
  else if b.toNat < 16 then .byteOtherInUnit08 (b.extractLsb' 0 3)
  else if b.toNat < 32 then .byteOtherInUnit10 (b.extractLsb' 0 4)
  else if b.toNat < 64 then .byteOtherInUnit20 (b.extractLsb' 0 5)
  else if b.toNat < 128 then .byteOtherInUnit40 (b.extractLsb' 0 6)
  else .byteOtherInUnit80 (b.extractLsb' 0 7)

/-- The row of a byte: its class (R74), the phase and, for 0x01, whether `zrun >= 2` (R121). -/
def byteRow (foundFirst : Bool) (zrun : Nat) (b : Byte) : Instr :=
  if b = 0x00#8 then
    if foundFirst then .byteZeroInUnit else .byteZeroSeekFirst
  else if b = 0x01#8 then
    if foundFirst then
      if 2 ≤ zrun then .byteOneInUnitDelim else .byteOneInUnitPayload
    else
      if 2 ≤ zrun then .byteOneSeekFirstStart else .byteOneSeekFirstNas
  else if foundFirst then otherInUnit b else otherSeekFirst b

/-- The row of a symbol in a phase (R121). -/
def symbolRow (foundFirst : Bool) (zrun : Nat) : Symbol → Instr
  | .byte b => byteRow foundFirst zrun b
  | .eof => if foundFirst then .eofInUnit else if zrun = 0 then .eofSeekFirstEmpty else .eofSeekFirstNas
  | .fail e => if foundFirst then .failInUnit e else .failSeekFirst e

/-- A source word as the row it selects; a reserved word is SRC_RESERVED in every state (R85). -/
def decodeSource (cfg : Config) (foundFirst : Bool) (zrun : Nat) (w : SrcWord) : Instr :=
  match w.symbol cfg with
  | some sym => symbolRow foundFirst zrun sym
  | none => .srcReserved

/-- A source word from one number, tag above D data bits (R82). -/
def SrcWord.ofNat (cfg : Config) (n : Nat) : SrcWord :=
  { tag := BitVec.ofNat 2 (n / 2 ^ cfg.dataWidth), data := n % 2 ^ cfg.dataWidth }

/-- A source word as one number, tag above D data bits (R82). -/
def SrcWord.toNat (cfg : Config) (w : SrcWord) : Nat := w.tag.toNat * 2 ^ cfg.dataWidth + w.dataField cfg

/-! ## Response words (R86) -/

/-- Why a word is no instruction. -/
inductive DecodeError where
  /-- The word has a bit above its format's width. -/
  | wordTooWide (fmt : Format)
  /-- An END_OF_STREAM or NOT_A_STREAM word whose info is not 0 (R86). -/
  | infoNotZero
  /-- A SOURCE_READ_FAILURE word whose info is not the low byte of an ERR_W-bit code (R84, R86). -/
  | failureCodeTooWide
  deriving DecidableEq, Repr

/-- A 10-bit response header word, tag above info (R86). The core decodes no response word; this decoder, and what it refuses, is
the model's (log entry 13). DESIGN CHOICE (log entry 16): a UNIT word whose info has type 6, which no UNIT has (R87), decodes to
RSP_UNIT like any other. -/
def decodeResponse (cfg : Config) (w : BitVec 10) : Except DecodeError Instr :=
  let info : BitVec 8 := w.extractLsb' 0 8
  match w.getLsbD 9, w.getLsbD 8 with
  | false, false => .ok (.rspUnit info)
  | false, true => if info = 0#8 then .ok .rspEndOfStream else .error .infoNotZero
  | true, false => if info = 0#8 then .ok .rspNotAStream else .error .infoNotZero
  | true, true => if info.toNat < 2 ^ cfg.errW then .ok (.rspSourceReadFailure info) else .error .failureCodeTooWide

/-! ## Any word of a format -/

/-- The width in bits of a format's word. -/
def Format.width (cfg : Config) : Format → Nat
  | .hdr => 8
  | .cmd => 2
  | .src => cfg.dataWidth + 2
  | .rsp => 10

/-- The decoder: a number as a word of a format, in a scanner phase with a zero count. -/
def decodeWord (cfg : Config) (foundFirst : Bool) (zrun : Nat) (fmt : Format) (w : Nat) : Except DecodeError Instr :=
  if w < 2 ^ fmt.width cfg then
    match fmt with
    | .hdr => .ok (decodeHeader (BitVec.ofNat 8 w))
    | .cmd => .ok (decodeCommand (BitVec.ofNat 2 w))
    | .src => .ok (decodeSource cfg foundFirst zrun (SrcWord.ofNat cfg w))
    | .rsp => decodeResponse cfg (BitVec.ofNat 10 w)
  else .error (.wordTooWide fmt)

/-- Which format a word of the opcode table is read in, from its number of bits alone (log entry 6). The table gives the four
formats no common word, so a byte below 4 is read as a command (the other 6 bits of the byte are 0), another byte as a header
byte, and a word of two bytes as a source word: those are what the machine takes in. -/
def tableFormat (nbits w : Nat) : Option Format :=
  if nbits = 2 then some .cmd
  else if nbits = 8 then if w < 4 then some .cmd else some .hdr
  else if nbits = 10 ∨ nbits = 16 then some .src
  else none

/-- The instruction the decoder reads from a word of spec/opcode_table.json, as the first symbol of a stream after reset:
the wire words have ERR_W = 8, the phase is SEEK_FIRST and no zero has been read (10_state.md R34). -/
def decodeTableWord (nbits w : Nat) : Option Instr :=
  match tableFormat nbits w with
  | none => none
  | some fmt =>
    match decodeWord Config.softwareSemantics false 0 fmt w with
    | .ok i => some i
    | .error _ => none

/-! ## The encoder -/

/-- The format of an instruction's row. -/
def Instr.format : Instr → Format
  | .nalType0 _ _ => .hdr
  | .nalType1 _ _ => .hdr
  | .nalType2 _ _ => .hdr
  | .nalType3 _ _ => .hdr
  | .nalType4 _ _ => .hdr
  | .nalType5 _ _ => .hdr
  | .nalType6 _ _ => .hdr
  | .nalType7 _ _ => .hdr
  | .nalType8 _ _ => .hdr
  | .nalType9 _ _ => .hdr
  | .nalType10 _ _ => .hdr
  | .nalType11 _ _ => .hdr
  | .nalType12 _ _ => .hdr
  | .nalType13 _ _ => .hdr
  | .nalType14 _ _ => .hdr
  | .nalType15 _ _ => .hdr
  | .nalType16 _ _ => .hdr
  | .nalType17 _ _ => .hdr
  | .nalType18 _ _ => .hdr
  | .nalType19 _ _ => .hdr
  | .nalType20 _ _ => .hdr
  | .nalType21 _ _ => .hdr
  | .nalType22 _ _ => .hdr
  | .nalType23 _ _ => .hdr
  | .nalType24 _ _ => .hdr
  | .nalType25 _ _ => .hdr
  | .nalType26 _ _ => .hdr
  | .nalType27 _ _ => .hdr
  | .nalType28 _ _ => .hdr
  | .nalType29 _ _ => .hdr
  | .nalType30 _ _ => .hdr
  | .nalType31 _ _ => .hdr
  | .nop => .cmd
  | .nextUnit => .cmd
  | .reset => .cmd
  | .cmdReserved => .cmd
  | .byteZeroSeekFirst => .src
  | .byteZeroInUnit => .src
  | .byteOneSeekFirstStart => .src
  | .byteOneSeekFirstNas => .src
  | .byteOneInUnitDelim => .src
  | .byteOneInUnitPayload => .src
  | .byteOtherSeekFirst02 _ => .src
  | .byteOtherSeekFirst04 _ => .src
  | .byteOtherSeekFirst08 _ => .src
  | .byteOtherSeekFirst10 _ => .src
  | .byteOtherSeekFirst20 _ => .src
  | .byteOtherSeekFirst40 _ => .src
  | .byteOtherSeekFirst80 _ => .src
  | .byteOtherInUnit02 _ => .src
  | .byteOtherInUnit04 _ => .src
  | .byteOtherInUnit08 _ => .src
  | .byteOtherInUnit10 _ => .src
  | .byteOtherInUnit20 _ => .src
  | .byteOtherInUnit40 _ => .src
  | .byteOtherInUnit80 _ => .src
  | .eofSeekFirstEmpty => .src
  | .eofSeekFirstNas => .src
  | .eofInUnit => .src
  | .failSeekFirst _ => .src
  | .failInUnit _ => .src
  | .srcReserved => .src
  | .rspUnit _ => .rsp
  | .rspEndOfStream => .rsp
  | .rspNotAStream => .rsp
  | .rspSourceReadFailure _ => .rsp

/-- The condition of an instruction's row on found_first and zrun (opcode_table.json "condition"); a row with none is selected
in every state. -/
def Instr.rowCondition (foundFirst : Bool) (zrun : Nat) : Instr → Bool
  | .nalType0 _ _ => true
  | .nalType1 _ _ => true
  | .nalType2 _ _ => true
  | .nalType3 _ _ => true
  | .nalType4 _ _ => true
  | .nalType5 _ _ => true
  | .nalType6 _ _ => true
  | .nalType7 _ _ => true
  | .nalType8 _ _ => true
  | .nalType9 _ _ => true
  | .nalType10 _ _ => true
  | .nalType11 _ _ => true
  | .nalType12 _ _ => true
  | .nalType13 _ _ => true
  | .nalType14 _ _ => true
  | .nalType15 _ _ => true
  | .nalType16 _ _ => true
  | .nalType17 _ _ => true
  | .nalType18 _ _ => true
  | .nalType19 _ _ => true
  | .nalType20 _ _ => true
  | .nalType21 _ _ => true
  | .nalType22 _ _ => true
  | .nalType23 _ _ => true
  | .nalType24 _ _ => true
  | .nalType25 _ _ => true
  | .nalType26 _ _ => true
  | .nalType27 _ _ => true
  | .nalType28 _ _ => true
  | .nalType29 _ _ => true
  | .nalType30 _ _ => true
  | .nalType31 _ _ => true
  | .nop => true
  | .nextUnit => true
  | .reset => true
  | .cmdReserved => true
  | .byteZeroSeekFirst => !foundFirst
  | .byteZeroInUnit => foundFirst
  | .byteOneSeekFirstStart => !foundFirst && decide (2 ≤ zrun)
  | .byteOneSeekFirstNas => !foundFirst && decide (zrun < 2)
  | .byteOneInUnitDelim => foundFirst && decide (2 ≤ zrun)
  | .byteOneInUnitPayload => foundFirst && decide (zrun < 2)
  | .byteOtherSeekFirst02 _ => !foundFirst
  | .byteOtherSeekFirst04 _ => !foundFirst
  | .byteOtherSeekFirst08 _ => !foundFirst
  | .byteOtherSeekFirst10 _ => !foundFirst
  | .byteOtherSeekFirst20 _ => !foundFirst
  | .byteOtherSeekFirst40 _ => !foundFirst
  | .byteOtherSeekFirst80 _ => !foundFirst
  | .byteOtherInUnit02 _ => foundFirst
  | .byteOtherInUnit04 _ => foundFirst
  | .byteOtherInUnit08 _ => foundFirst
  | .byteOtherInUnit10 _ => foundFirst
  | .byteOtherInUnit20 _ => foundFirst
  | .byteOtherInUnit40 _ => foundFirst
  | .byteOtherInUnit80 _ => foundFirst
  | .eofSeekFirstEmpty => !foundFirst && decide (zrun = 0)
  | .eofSeekFirstNas => !foundFirst && decide (0 < zrun)
  | .eofInUnit => foundFirst
  | .failSeekFirst _ => !foundFirst
  | .failInUnit _ => foundFirst
  | .srcReserved => true
  | .rspUnit _ => true
  | .rspEndOfStream => true
  | .rspNotAStream => true
  | .rspSourceReadFailure _ => true

/-- The word of a source symbol with the given tag and data (R82). -/
def srcNat (cfg : Config) (tag data : Nat) : Nat := tag * 2 ^ cfg.dataWidth + data

/-- The word of a well-formed instruction, a number of `i.format.width cfg` bits; ignored data bits are 0. -/
def encode (cfg : Config) : Instr → Nat
  | .nalType0 f nri => (headerByte f nri 0#5).toNat
  | .nalType1 f nri => (headerByte f nri 1#5).toNat
  | .nalType2 f nri => (headerByte f nri 2#5).toNat
  | .nalType3 f nri => (headerByte f nri 3#5).toNat
  | .nalType4 f nri => (headerByte f nri 4#5).toNat
  | .nalType5 f nri => (headerByte f nri 5#5).toNat
  | .nalType6 f nri => (headerByte f nri 6#5).toNat
  | .nalType7 f nri => (headerByte f nri 7#5).toNat
  | .nalType8 f nri => (headerByte f nri 8#5).toNat
  | .nalType9 f nri => (headerByte f nri 9#5).toNat
  | .nalType10 f nri => (headerByte f nri 10#5).toNat
  | .nalType11 f nri => (headerByte f nri 11#5).toNat
  | .nalType12 f nri => (headerByte f nri 12#5).toNat
  | .nalType13 f nri => (headerByte f nri 13#5).toNat
  | .nalType14 f nri => (headerByte f nri 14#5).toNat
  | .nalType15 f nri => (headerByte f nri 15#5).toNat
  | .nalType16 f nri => (headerByte f nri 16#5).toNat
  | .nalType17 f nri => (headerByte f nri 17#5).toNat
  | .nalType18 f nri => (headerByte f nri 18#5).toNat
  | .nalType19 f nri => (headerByte f nri 19#5).toNat
  | .nalType20 f nri => (headerByte f nri 20#5).toNat
  | .nalType21 f nri => (headerByte f nri 21#5).toNat
  | .nalType22 f nri => (headerByte f nri 22#5).toNat
  | .nalType23 f nri => (headerByte f nri 23#5).toNat
  | .nalType24 f nri => (headerByte f nri 24#5).toNat
  | .nalType25 f nri => (headerByte f nri 25#5).toNat
  | .nalType26 f nri => (headerByte f nri 26#5).toNat
  | .nalType27 f nri => (headerByte f nri 27#5).toNat
  | .nalType28 f nri => (headerByte f nri 28#5).toNat
  | .nalType29 f nri => (headerByte f nri 29#5).toNat
  | .nalType30 f nri => (headerByte f nri 30#5).toNat
  | .nalType31 f nri => (headerByte f nri 31#5).toNat
  | .nop => 0
  | .nextUnit => 1
  | .reset => 2
  | .cmdReserved => 3
  | .byteZeroSeekFirst => srcNat cfg 0 0x00
  | .byteZeroInUnit => srcNat cfg 0 0x00
  | .byteOneSeekFirstStart => srcNat cfg 0 0x01
  | .byteOneSeekFirstNas => srcNat cfg 0 0x01
  | .byteOneInUnitDelim => srcNat cfg 0 0x01
  | .byteOneInUnitPayload => srcNat cfg 0 0x01
  | .byteOtherSeekFirst02 b => srcNat cfg 0 (0x02 + b.toNat)
  | .byteOtherSeekFirst04 b => srcNat cfg 0 (0x04 + b.toNat)
  | .byteOtherSeekFirst08 b => srcNat cfg 0 (0x08 + b.toNat)
  | .byteOtherSeekFirst10 b => srcNat cfg 0 (0x10 + b.toNat)
  | .byteOtherSeekFirst20 b => srcNat cfg 0 (0x20 + b.toNat)
  | .byteOtherSeekFirst40 b => srcNat cfg 0 (0x40 + b.toNat)
  | .byteOtherSeekFirst80 b => srcNat cfg 0 (0x80 + b.toNat)
  | .byteOtherInUnit02 b => srcNat cfg 0 (0x02 + b.toNat)
  | .byteOtherInUnit04 b => srcNat cfg 0 (0x04 + b.toNat)
  | .byteOtherInUnit08 b => srcNat cfg 0 (0x08 + b.toNat)
  | .byteOtherInUnit10 b => srcNat cfg 0 (0x10 + b.toNat)
  | .byteOtherInUnit20 b => srcNat cfg 0 (0x20 + b.toNat)
  | .byteOtherInUnit40 b => srcNat cfg 0 (0x40 + b.toNat)
  | .byteOtherInUnit80 b => srcNat cfg 0 (0x80 + b.toNat)
  | .eofSeekFirstEmpty => srcNat cfg 1 0
  | .eofSeekFirstNas => srcNat cfg 1 0
  | .eofInUnit => srcNat cfg 1 0
  | .failSeekFirst e => srcNat cfg 2 e
  | .failInUnit e => srcNat cfg 2 e
  | .srcReserved => srcNat cfg 3 0
  | .rspUnit info => 0x000 + info.toNat
  | .rspEndOfStream => 0x100
  | .rspNotAStream => 0x200
  | .rspSourceReadFailure info => 0x300 + info.toNat

end Sys2Proof
end

