-- ==== Sys2Proof/Machine/State.lean ====
section
/-! DEFINITION. The state of one core instance with the environment it is connected to, its reset value, and the reasons a
step can stop (spec 10_state.md, 60_exceptions.md R210). -/

namespace Sys2Proof.Machine

/-- The Decoder state (R21). -/
inductive DState where
  | beforeFirstUnit
  | streaming
  | exhausted
  | errored
  | failed
  deriving DecidableEq, Repr

/-- The model faults, codes 1 to 5 in this order (R210). They are recorded in the state's `fault` field, they do not stop
the step: a RESET still begins a new instance (R178). -/
inductive FaultReason where
  /-- NEXT_UNIT while a request is outstanding (R176). -/
  | concurrentRequest
  /-- CMD = 0b11 (R179). -/
  | reservedCommand
  /-- A source word with tag 0b11, or a BYTE word with data above bit 7 (R85). -/
  | reservedSourceTag
  /-- A commit beyond MAX_NAL_BYTES (R120). -/
  | capacityExceeded
  /-- A delivery with `seq >= 2^SEQ_W` (R152). -/
  | seqOverflow
  deriving DecidableEq, Repr

/-- The fields of a UNIT response (30_encoding.md R87). -/
structure NalUnit where
  payload : List Byte
  length : Nat
  header : Byte
  forbiddenBit : Bool
  referenceIdc : BitVec 2
  unitType : BitVec 5
  sequenceIndex : Nat
  deriving DecidableEq, Repr

/-- A response (R86). -/
inductive Response where
  | unit (u : NalUnit)
  | endOfStream
  | notAStream
  | sourceReadFailure (err : SrcErr)
  deriving DecidableEq, Repr

/-- The terminal signals of the source's taxonomy (R200 to R203). -/
inductive Signal where
  | endOfStream
  | notAStream
  | sourceReadFailure (err : SrcErr)
  deriving DecidableEq, Repr

/-- A scan event the Scanner reports to the Decoder (40_scanner.md R100); EV_NONE is `none` of the option that holds it. -/
inductive ScanEvent where
  /-- EV_SLICE(s): a slice ended by a start code. -/
  | slice (s : List Byte)
  /-- EV_LAST(s): a slice ended by end of input. -/
  | last (s : List Byte)
  /-- EV_EMPTY: end of input before any byte. -/
  | empty
  /-- EV_NAS: the initial-boundary check failed. -/
  | notAStream
  /-- EV_FAIL(e): the source reported failure e. -/
  | fail (e : SrcErr)
  deriving DecidableEq, Repr

/-- What the environment does next (42_interface_ops.md R170; 70_reset_and_hazards.md R244). -/
inductive Input where
  /-- The consumer presents a command word. -/
  | command (w : BitVec 2)
  /-- The byte source answers the outstanding read, if there is one, with its next symbol. -/
  | answer
  /-- The environment repositions the byte source: from now on it supplies this stream. -/
  | rebind (stream : List SrcWord)
  deriving DecidableEq, Repr

/-- What stays in the observation of an instance that a RESET ended (R178). -/
structure EndedRun where
  out : List Response
  fault : Option FaultReason
  deriving DecidableEq, Repr

/-- Why the machine stops with a fault: never. Every model fault of R210 is a next state with `fault` written, so no
constructor stands here: nobody raises one, which is safe. -/
inductive Fault where
  deriving DecidableEq, Repr

/-- Why the model has no meaning for an instruction. -/
inductive Refusal where
  /-- Raised by an arm of exec whose instruction has no meaning yet, with its mnemonic; safe. No arm raises it now. -/
  | notModelled (mnemonic : String)
  deriving DecidableEq, Repr

/-- The state record of R20, then the build's parameters, the wire between Scanner and Decoder, the environment, and the
observation of ended instances. -/
structure State where
  /-- `dstate`, the Decoder state (R21). -/
  dstate : DState
  /-- `found_first`, the scanner phase: SEEK_FIRST when false, IN_UNIT when true (R22). -/
  foundFirst : Bool
  /-- `zrun`, the exact count of uncommitted zero bytes just read (R23). -/
  zrun : Nat
  /-- `slice`, the committed bytes of the current slice (R24). -/
  slice : List Byte
  /-- `seq`, the next sequence index (R25). -/
  seq : Nat
  /-- `eof_seen` (R26). -/
  eofSeen : Bool
  /-- `fail_code` (R27). -/
  failCode : Option SrcErr
  /-- `busy`: a NEXT_UNIT request is outstanding (R28). -/
  busy : Bool
  /-- `fault`, sticky (R29). -/
  fault : Option FaultReason
  /-- `pos`, the number of symbols read (R30). -/
  pos : Nat
  /-- `out`, every response given, oldest first (R31). -/
  out : List Response
  /-- The build's parameters (00_scope.md R7); no step writes them. -/
  cfg : Config
  /-- The scan event the Decoder has still to react to (R100); the model's own, `none` between steps of a run. -/
  event : Option ScanEvent
  /-- The symbols the byte source has still to supply, next first (20_memory.md R50 (a)); the environment's. When it is empty
  the source does not answer (R247). -/
  source : List SrcWord
  /-- What the environment does, in order; the environment's. When it is empty the consumer presents NOP and the source
  answers at once. -/
  inputs : List Input
  /-- The observation of the instances ended by RESET, oldest first (R178). -/
  past : List EndedRun
  deriving DecidableEq, Repr

/-- The machine right after construction (R34, 70_reset_and_hazards.md R240), with nothing connected yet. -/
def State.reset : State where
  dstate := .beforeFirstUnit
  foundFirst := false
  zrun := 0
  slice := []
  seq := 0
  eofSeen := false
  failCode := none
  busy := false
  fault := none
  pos := 0
  out := []
  cfg := Config.softwareSemantics
  event := none
  source := []
  inputs := []
  past := []

/-- A step's outcome. -/
abbrev Result := Host.Outcome State Fault Refusal

end Sys2Proof.Machine
end

