-- ==== Sys2Proof/Machine/Operands.lean ====
section
/-! DEFINITION. Operand forms: byte classes, pending zeros, the fields of a unit, and the observation codes
(spec 30_encoding.md R74, R86, R87; 10_state.md R21; 60_exceptions.md R210). -/

namespace Sys2Proof.Machine

/-- `zeros(n)` (00_scope.md R9). -/
def zeros (n : Nat) : List Byte := List.replicate n 0x00#8

/-- The byte that `n` low bits and the lowest byte of a row's range make, for the rows of class OTHER
(opcode_table.json, `0x02` to `0x80` with 1 to 7 free low bits). -/
def rangeByte {n : Nat} (base : Nat) (b : BitVec n) : Byte := BitVec.ofNat 8 (base + b.toNat)

/-- A unit whose payload is the header byte and the trailing payload, with the fields R87 gives it. -/
def unitOf (h : Byte) (trailing : List Byte) (index : Nat) : NalUnit where
  payload := h :: trailing
  length := (h :: trailing).length
  header := h
  forbiddenBit := headerF h
  referenceIdc := headerNri h
  unitType := headerType h
  sequenceIndex := index

/-- The low 8 bits of a failure code, the info of its response word (R86). -/
def failInfo (e : SrcErr) : BitVec 8 := BitVec.ofNat 8 e

/-- A failure code with its low 8 bits replaced by a response word's info (R86: "the full code is in `err`"). -/
def withFailInfo (e : SrcErr) (info : BitVec 8) : SrcErr := e / 2 ^ 8 * 2 ^ 8 + info.toNat

/-- The slice a scan event carries. -/
def eventSlice : Option ScanEvent → List Byte
  | some (.slice s) => s
  | some (.last s) => s
  | _ => []

/-- The header byte of the slice a scan event carries, if it carries a non-empty one. -/
def eventHeader (ev : Option ScanEvent) : Option Byte := (eventSlice ev).head?

/-- The 3-bit code of a Decoder state (R21). -/
def dstateCode : DState → BitVec 3
  | .beforeFirstUnit => 0b000#3
  | .streaming => 0b001#3
  | .exhausted => 0b010#3
  | .errored => 0b011#3
  | .failed => 0b100#3

/-- The code of a model fault (R210). -/
def faultCode : FaultReason → Nat
  | .concurrentRequest => 1
  | .reservedCommand => 2
  | .reservedSourceTag => 3
  | .capacityExceeded => 4
  | .seqOverflow => 5

/-- The response as its RSP instruction (R86). -/
def responseInstr : Response → Instr
  | .unit u => .rspUnit u.header
  | .endOfStream => .rspEndOfStream
  | .notAStream => .rspNotAStream
  | .sourceReadFailure e => .rspSourceReadFailure (failInfo e)

/-- The 10-bit header word of a response on the response port (R86). -/
def responseWord (cfg : Config) (r : Response) : BitVec 10 := BitVec.ofNat 10 (encode cfg (responseInstr r))

/-- One item a response sends on the response port (R86). The spec orders the items and gives the ones after the header word no
wire word, so they are plain numbers and bytes (log entry 18). -/
inductive PortItem where
  /-- The 10-bit header word, tag above info. -/
  | header (w : BitVec 10)
  /-- `sequence_index` of a UNIT. -/
  | sequenceIndex (n : Nat)
  /-- `length` of a UNIT. -/
  | length (n : Nat)
  /-- One payload byte of a UNIT. -/
  | payloadByte (b : Byte)
  deriving DecidableEq, Repr

/-- What follows a response's header word: for a UNIT its `sequence_index`, its `length` and its payload bytes in stream order;
nothing for the others (R86). -/
def responseTrailer : Response → List PortItem
  | .unit u => .sequenceIndex u.sequenceIndex :: .length u.length :: u.payload.map .payloadByte
  | .endOfStream => []
  | .notAStream => []
  | .sourceReadFailure _ => []

/-- A response as the items it sends on the response port, in order (R86). -/
def responseItems (cfg : Config) (r : Response) : List PortItem := .header (responseWord cfg r) :: responseTrailer r

/-- Every response handed to the consumer, oldest first: those of the instances a RESET ended, then those of this one
(20_memory.md R64; 42_interface_ops.md R178). -/
def State.handedOver (s : State) : List Response := s.past.flatMap EndedRun.out ++ s.out

/-- Everything sent on the response port so far, oldest first: each response whole and in the order of its Emit (20_memory.md R56,
R64; R86). -/
def State.responsePort (s : State) : List PortItem := s.handedOver.flatMap (responseItems s.cfg)

/-- The response is a UNIT. -/
def Response.asUnit : Response → Option NalUnit
  | .unit u => some u
  | _ => none

end Sys2Proof.Machine
end

