-- ==== Sys2Proof/Machine/Flags.lean ====
section
/-! DEFINITION. Every condition the rules test, said once. -/

namespace Sys2Proof.Machine

/-- The instance takes steps: no fault is recorded (42_interface_ops.md R170, R182). -/
def State.live (s : State) : Bool := s.fault.isNone

/-- The busy step is enabled: a request is outstanding and no fault is recorded (R177). -/
def State.reading (s : State) : Bool := s.busy && s.live

/-- Phase SEEK_FIRST (R22). -/
def State.seekFirst (s : State) : Bool := !s.foundFirst

/-- Phase IN_UNIT (R22). -/
def State.inUnit (s : State) : Bool := s.foundFirst

/-- `zrun >= 2`: a 0x01 now completes a start code (30_encoding.md R75). -/
def State.zerosReady (s : State) : Bool := decide (2 ≤ s.zrun)

/-- `dstate` is EXHAUSTED, ERRORED or FAILED (10_state.md R37). -/
def State.terminal (s : State) : Bool :=
  match s.dstate with
  | .beforeFirstUnit => false
  | .streaming => false
  | .exhausted => true
  | .errored => true
  | .failed => true

/-- `n` more bytes fit the slice buffer (40_scanner.md R120). -/
def State.fits (s : State) (n : Nat) : Bool :=
  match s.cfg.maxNalBytes with
  | none => true
  | some cap => decide (s.slice.length + n ≤ cap)

/-- SEQ_W is finite and `seq >= 2^SEQ_W` (41_nal_decoder.md R152). -/
def State.seqFull (s : State) : Bool :=
  match s.cfg.seqW with
  | none => false
  | some w => decide (2 ^ w ≤ s.seq)

/-- The type of SEI, the one type that is filtered (30_encoding.md R73). -/
def seiType : BitVec 5 := 6#5

/-- The header byte is one of the eight SEI bytes (R76). -/
def isSei (h : Byte) : Bool := headerType h == seiType

/-- The header byte the Decoder has still to decode inside an outstanding request: that of a non-empty slice on the wire. No
step of a run leaves one there (log entry 2). -/
def State.waitingHeader (s : State) : Option Byte := if s.reading then eventHeader s.event else none

end Sys2Proof.Machine
end

