-- ==== Sys2Proof/Machine/Ops.lean ====
section
/-! DEFINITION. The named operations every meaning is written over: SrcRead, raise Fault, Emit, Commit, Deliver and terminal
entry (spec 00_scope.md R10). -/

namespace Sys2Proof.Machine

/-- `SrcRead()` with `pos <- pos + 1` (R177): the source's next symbol is consumed, exactly one (20_memory.md R51), and the
wire to the Decoder is clear for the symbol's event. -/
def State.srcRead (s : State) : State :=
  { s with pos := s.pos + 1, source := s.source.tail, event := none }

/-- `raise Fault(r)`: writes `fault`, nothing else (R210). -/
def State.raiseFault (r : FaultReason) (s : State) : State := { s with fault := some r }

/-- `Emit(r)`: appends the response to `out`, nothing else (R64). -/
def State.emit (r : Response) (s : State) : State := { s with out := s.out ++ [r] }

/-- The code SOURCE_READ_FAILURE carries: `fail_code`; the free value where none is recorded (log entry 5). -/
def State.failValue (s : State) : SrcErr :=
  match s.failCode with
  | some e => e
  | none => Config.unsetFailCode s.out.length

/-- Emit the UNIT whose header byte is `h`: its trailing payload is the rest of the slice in the scan event, its index `seq`
(R87, R152). -/
def State.emitUnit (h : Byte) (s : State) : State := s.emit (.unit (unitOf h (eventSlice s.event).tail s.seq))

/-- Emit END_OF_STREAM (R202). -/
def State.emitEndOfStream (s : State) : State := s.emit .endOfStream

/-- Emit NOT_A_STREAM (R201). -/
def State.emitNotAStream (s : State) : State := s.emit .notAStream

/-- Emit SOURCE_READ_FAILURE whose word has this info byte; the rest of the code is that of `fail_code` (R86, R203). -/
def State.emitSourceReadFailure (info : BitVec 8) (s : State) : State :=
  s.emit (.sourceReadFailure (withFailInfo s.failValue info))

/-- TERMINAL ENTRY, the one shared operation (60_exceptions.md R205): writes `dstate`, for EXHAUSTED `eof_seen` and for FAILED
`fail_code`, emits the signal and clears `busy`. There is no return from it but RESET (R206). -/
def State.enterTerminal (sig : Signal) (s : State) : State :=
  match sig with
  | .endOfStream =>
    { s.emitEndOfStream with dstate := .exhausted, eofSeen := true, busy := false, event := none }
  | .notAStream =>
    { s.emitNotAStream with dstate := .errored, busy := false, event := none }
  | .sourceReadFailure e =>
    { ({ s with failCode := some e }).emitSourceReadFailure (failInfo e) with
      dstate := .failed, busy := false, event := none }

/-- `Commit(bytes)` followed by `zrun <- 0`, the only writer that appends to `slice` (40_scanner.md R120, R112 to R114). -/
def State.commit (bytes : List Byte) (s : State) : State :=
  if s.fits bytes.length then { s with slice := s.slice ++ bytes, zrun := 0 } else s.raiseFault .capacityExceeded

/-- `Deliver(s)` for the slice in the scan event, with `h` its header byte (41_nal_decoder.md R152); `last` when end of input
ended the slice, so that `eof_seen` is set too (R149). The request is complete. -/
def State.deliver (h : Byte) (last : Bool) (s : State) : State :=
  if s.seqFull then s.raiseFault .seqOverflow
  else
    { s.emitUnit h with
      seq := s.seq + 1, dstate := .streaming, eofSeen := s.eofSeen || last, busy := false, event := none }

/-- The slice in the scan event is discarded and the request goes on (R144, R145). -/
def State.skipSlice (s : State) : State := { s with event := none }

/-- Construction of a new reader (70_reset_and_hazards.md R240): every field of R20 at its reset value of R34. The ended
instance's `out` and `fault` stay in its observation (R178). The build and the environment are no part of the instance. -/
def State.construct (s : State) : State :=
  { State.reset with
    cfg := s.cfg, source := s.source, inputs := s.inputs, past := s.past ++ [{ out := s.out, fault := s.fault }] }

end Sys2Proof.Machine
end

