-- ==== Sys2Proof/Machine/Commands.lean ====
section
/-! DEFINITION. The commands of the request port (spec 42_interface_ops.md R171 to R176, R178 to R180). -/

namespace Sys2Proof.Machine

/-- NOP (R180). -/
def execNop (s : State) : Result := .next s

/-- NEXT_UNIT: R176 while a request is outstanding; R172, R173, R174 repeat the terminal signal; R175 after end of input;
R171 accepts the request. A faulted instance takes no step (R182). -/
def execNextUnit (s : State) : Result :=
  if s.live then
    if s.busy then .next (s.raiseFault .concurrentRequest)
    else
      match s.dstate with
      | .exhausted => .next s.emitEndOfStream
      | .errored => .next s.emitNotAStream
      | .failed => .next (s.emitSourceReadFailure (failInfo s.failValue))
      | .beforeFirstUnit => if s.eofSeen then .next (s.enterTerminal .endOfStream) else .next { s with busy := true }
      | .streaming => if s.eofSeen then .next (s.enterTerminal .endOfStream) else .next { s with busy := true }
  else .next s

/-- RESET (R178): accepted in every state, busy and faulted included. -/
def execReset (s : State) : Result := .next s.construct

/-- The reserved command (R179, 30_encoding.md R81). A faulted instance takes no step (R182). -/
def execCmdReserved (s : State) : Result :=
  if s.live then .next (s.raiseFault .reservedCommand) else .next s

end Sys2Proof.Machine
end

