-- ==== Sys2Proof/Machine/Responses.lean ====
section
/-! DEFINITION. The responses of the response port: each row is the Emit of its response (spec 20_memory.md R64; 30_encoding.md
R86, R87). A faulted instance emits no response (42_interface_ops.md R182). -/

namespace Sys2Proof.Machine

/-- RSP_UNIT: Emit the UNIT with this header byte; the slice in the scan event and `seq` give the rest (R87, R152). DESIGN
CHOICE (log entry 16): run on its own it emits a header byte of type 6 too, which no request delivers. -/
def execRspUnit (info : BitVec 8) (s : State) : Result := if s.live then .next (s.emitUnit info) else .next s

/-- RSP_END_OF_STREAM: Emit END_OF_STREAM (R202). -/
def execRspEndOfStream (s : State) : Result := if s.live then .next s.emitEndOfStream else .next s

/-- RSP_NOT_A_STREAM: Emit NOT_A_STREAM (R201). -/
def execRspNotAStream (s : State) : Result := if s.live then .next s.emitNotAStream else .next s

/-- RSP_SOURCE_READ_FAILURE: Emit SOURCE_READ_FAILURE with this info byte, the rest of the code from `fail_code` (R86, R203). -/
def execRspSourceReadFailure (info : BitVec 8) (s : State) : Result :=
  if s.live then .next (s.emitSourceReadFailure info) else .next s

end Sys2Proof.Machine
end

