-- ==== Sys2Proof/Machine/NalUnit.lean ====
section
/-! DEFINITION. The NAL Decoder: the meanings of the 32 NAL_TYPE rows, and the reaction to a scan event
(spec 41_nal_decoder.md R144 to R153, R158). -/

namespace Sys2Proof.Machine

/-- What the Decoder does with a slice whose header byte has a type that is delivered (30_encoding.md R73): R146 when a start
code ended the slice, R149 when end of input did. Where no such slice is waiting there is nothing to decode: no effect. -/
def deliverRow (t : BitVec 5) (f : Bool) (nri : BitVec 2) (s : State) : State :=
  if s.reading then
    match s.event with
    | some (.slice (_ :: _)) => s.deliver (headerByte f nri t) false
    | some (.last (_ :: _)) => s.deliver (headerByte f nri t) true
    | _ => s
  else s

/-- What the Decoder does with a slice whose header byte has the SEI type: R145 when a start code ended the slice, R148 when
end of input did. F and NRI do not matter (R76). -/
def filterRow (s : State) : State :=
  if s.reading then
    match s.event with
    | some (.slice (_ :: _)) => s.skipSlice
    | some (.last (_ :: _)) => s.enterTerminal .endOfStream
    | _ => s
  else s

/-- NAL_TYPE_0: the unit is delivered with unit_type 0 (R146, R149, R152). -/
def execNalType0 (f : Bool) (nri : BitVec 2) (s : State) : Result := .next (deliverRow 0#5 f nri s)

/-- NAL_TYPE_1 (coded slice of a non-IDR picture): the unit is delivered with unit_type 1 (R146, R149, R152). -/
def execNalType1 (f : Bool) (nri : BitVec 2) (s : State) : Result := .next (deliverRow 1#5 f nri s)

/-- NAL_TYPE_2: the unit is delivered with unit_type 2 (R146, R149, R152). -/
def execNalType2 (f : Bool) (nri : BitVec 2) (s : State) : Result := .next (deliverRow 2#5 f nri s)

/-- NAL_TYPE_3: the unit is delivered with unit_type 3 (R146, R149, R152). -/
def execNalType3 (f : Bool) (nri : BitVec 2) (s : State) : Result := .next (deliverRow 3#5 f nri s)

/-- NAL_TYPE_4: the unit is delivered with unit_type 4 (R146, R149, R152). -/
def execNalType4 (f : Bool) (nri : BitVec 2) (s : State) : Result := .next (deliverRow 4#5 f nri s)

/-- NAL_TYPE_5 (coded slice of an IDR picture): the unit is delivered with unit_type 5 (R146, R149, R152). -/
def execNalType5 (f : Bool) (nri : BitVec 2) (s : State) : Result := .next (deliverRow 5#5 f nri s)

/-- NAL_TYPE_6 (SEI): the slice is filtered (R145, R148), whatever F and NRI are (R76). -/
def execNalType6 (_f : Bool) (_nri : BitVec 2) (s : State) : Result := .next (filterRow s)

/-- NAL_TYPE_7 (sequence parameter set): the unit is delivered with unit_type 7 (R146, R149, R152). -/
def execNalType7 (f : Bool) (nri : BitVec 2) (s : State) : Result := .next (deliverRow 7#5 f nri s)

/-- NAL_TYPE_8 (picture parameter set): the unit is delivered with unit_type 8 (R146, R149, R152). -/
def execNalType8 (f : Bool) (nri : BitVec 2) (s : State) : Result := .next (deliverRow 8#5 f nri s)

/-- NAL_TYPE_9 (access unit delimiter): the unit is delivered with unit_type 9 (R146, R149, R152). -/
def execNalType9 (f : Bool) (nri : BitVec 2) (s : State) : Result := .next (deliverRow 9#5 f nri s)

/-- NAL_TYPE_10 (end of sequence): the unit is delivered with unit_type 10 (R146, R149, R152). -/
def execNalType10 (f : Bool) (nri : BitVec 2) (s : State) : Result := .next (deliverRow 10#5 f nri s)

/-- NAL_TYPE_11 (end of stream): the unit is delivered with unit_type 11 (R146, R149, R152). -/
def execNalType11 (f : Bool) (nri : BitVec 2) (s : State) : Result := .next (deliverRow 11#5 f nri s)

/-- NAL_TYPE_12: the unit is delivered with unit_type 12 (R146, R149, R152). -/
def execNalType12 (f : Bool) (nri : BitVec 2) (s : State) : Result := .next (deliverRow 12#5 f nri s)

/-- NAL_TYPE_13: the unit is delivered with unit_type 13 (R146, R149, R152). -/
def execNalType13 (f : Bool) (nri : BitVec 2) (s : State) : Result := .next (deliverRow 13#5 f nri s)

/-- NAL_TYPE_14: the unit is delivered with unit_type 14 (R146, R149, R152). -/
def execNalType14 (f : Bool) (nri : BitVec 2) (s : State) : Result := .next (deliverRow 14#5 f nri s)

/-- NAL_TYPE_15: the unit is delivered with unit_type 15 (R146, R149, R152). -/
def execNalType15 (f : Bool) (nri : BitVec 2) (s : State) : Result := .next (deliverRow 15#5 f nri s)

/-- NAL_TYPE_16: the unit is delivered with unit_type 16 (R146, R149, R152). -/
def execNalType16 (f : Bool) (nri : BitVec 2) (s : State) : Result := .next (deliverRow 16#5 f nri s)

/-- NAL_TYPE_17: the unit is delivered with unit_type 17 (R146, R149, R152). -/
def execNalType17 (f : Bool) (nri : BitVec 2) (s : State) : Result := .next (deliverRow 17#5 f nri s)

/-- NAL_TYPE_18: the unit is delivered with unit_type 18 (R146, R149, R152). -/
def execNalType18 (f : Bool) (nri : BitVec 2) (s : State) : Result := .next (deliverRow 18#5 f nri s)

/-- NAL_TYPE_19: the unit is delivered with unit_type 19 (R146, R149, R152). -/
def execNalType19 (f : Bool) (nri : BitVec 2) (s : State) : Result := .next (deliverRow 19#5 f nri s)

/-- NAL_TYPE_20: the unit is delivered with unit_type 20 (R146, R149, R152). -/
def execNalType20 (f : Bool) (nri : BitVec 2) (s : State) : Result := .next (deliverRow 20#5 f nri s)

/-- NAL_TYPE_21: the unit is delivered with unit_type 21 (R146, R149, R152). -/
def execNalType21 (f : Bool) (nri : BitVec 2) (s : State) : Result := .next (deliverRow 21#5 f nri s)

/-- NAL_TYPE_22: the unit is delivered with unit_type 22 (R146, R149, R152). -/
def execNalType22 (f : Bool) (nri : BitVec 2) (s : State) : Result := .next (deliverRow 22#5 f nri s)

/-- NAL_TYPE_23: the unit is delivered with unit_type 23 (R146, R149, R152). -/
def execNalType23 (f : Bool) (nri : BitVec 2) (s : State) : Result := .next (deliverRow 23#5 f nri s)

/-- NAL_TYPE_24: the unit is delivered with unit_type 24 (R146, R149, R152). -/
def execNalType24 (f : Bool) (nri : BitVec 2) (s : State) : Result := .next (deliverRow 24#5 f nri s)

/-- NAL_TYPE_25: the unit is delivered with unit_type 25 (R146, R149, R152). -/
def execNalType25 (f : Bool) (nri : BitVec 2) (s : State) : Result := .next (deliverRow 25#5 f nri s)

/-- NAL_TYPE_26: the unit is delivered with unit_type 26 (R146, R149, R152). -/
def execNalType26 (f : Bool) (nri : BitVec 2) (s : State) : Result := .next (deliverRow 26#5 f nri s)

/-- NAL_TYPE_27: the unit is delivered with unit_type 27 (R146, R149, R152). -/
def execNalType27 (f : Bool) (nri : BitVec 2) (s : State) : Result := .next (deliverRow 27#5 f nri s)

/-- NAL_TYPE_28: the unit is delivered with unit_type 28 (R146, R149, R152). -/
def execNalType28 (f : Bool) (nri : BitVec 2) (s : State) : Result := .next (deliverRow 28#5 f nri s)

/-- NAL_TYPE_29: the unit is delivered with unit_type 29 (R146, R149, R152). -/
def execNalType29 (f : Bool) (nri : BitVec 2) (s : State) : Result := .next (deliverRow 29#5 f nri s)

/-- NAL_TYPE_30: the unit is delivered with unit_type 30 (R146, R149, R152). -/
def execNalType30 (f : Bool) (nri : BitVec 2) (s : State) : Result := .next (deliverRow 30#5 f nri s)

/-- NAL_TYPE_31: the unit is delivered with unit_type 31 (R146, R149, R152). -/
def execNalType31 (f : Bool) (nri : BitVec 2) (s : State) : Result := .next (deliverRow 31#5 f nri s)

/-- Run the NAL_TYPE row of a header byte, selected by its five type bits as `decodeHeader` selects it. -/
def execHeader (h : Byte) (s : State) : Result :=
  let f := headerF h
  let nri := headerNri h
  match h.getLsbD 4, h.getLsbD 3, h.getLsbD 2, h.getLsbD 1, h.getLsbD 0 with
  | false, false, false, false, false => execNalType0 f nri s
  | false, false, false, false, true => execNalType1 f nri s
  | false, false, false, true, false => execNalType2 f nri s
  | false, false, false, true, true => execNalType3 f nri s
  | false, false, true, false, false => execNalType4 f nri s
  | false, false, true, false, true => execNalType5 f nri s
  | false, false, true, true, false => execNalType6 f nri s
  | false, false, true, true, true => execNalType7 f nri s
  | false, true, false, false, false => execNalType8 f nri s
  | false, true, false, false, true => execNalType9 f nri s
  | false, true, false, true, false => execNalType10 f nri s
  | false, true, false, true, true => execNalType11 f nri s
  | false, true, true, false, false => execNalType12 f nri s
  | false, true, true, false, true => execNalType13 f nri s
  | false, true, true, true, false => execNalType14 f nri s
  | false, true, true, true, true => execNalType15 f nri s
  | true, false, false, false, false => execNalType16 f nri s
  | true, false, false, false, true => execNalType17 f nri s
  | true, false, false, true, false => execNalType18 f nri s
  | true, false, false, true, true => execNalType19 f nri s
  | true, false, true, false, false => execNalType20 f nri s
  | true, false, true, false, true => execNalType21 f nri s
  | true, false, true, true, false => execNalType22 f nri s
  | true, false, true, true, true => execNalType23 f nri s
  | true, true, false, false, false => execNalType24 f nri s
  | true, true, false, false, true => execNalType25 f nri s
  | true, true, false, true, false => execNalType26 f nri s
  | true, true, false, true, true => execNalType27 f nri s
  | true, true, true, false, false => execNalType28 f nri s
  | true, true, true, false, true => execNalType29 f nri s
  | true, true, true, true, false => execNalType30 f nri s
  | true, true, true, true, true => execNalType31 f nri s

/-- The Decoder's reaction to the scan event (R144 to R153, R158). A non-empty slice runs the NAL_TYPE row of its first byte
(R140, R145, R146, R148, R149). -/
def react (s : State) : Result :=
  match s.event with
  | none => .next s
  | some (.slice []) => .next s.skipSlice
  | some (.slice (h :: _)) => execHeader h s
  | some (.last []) => .next (s.enterTerminal .endOfStream)
  | some (.last (h :: _)) => execHeader h s
  | some .empty => .next (s.enterTerminal .endOfStream)
  | some .notAStream => .next (s.enterTerminal .notAStream)
  | some (.fail e) => .next (s.enterTerminal (.sourceReadFailure e))

end Sys2Proof.Machine
end

