-- ==== Sys2Proof/Machine/Scanner.lean ====
section
/-! DEFINITION. The Stream Scanner: one operation per rule of spec 40_scanner.md, the scan function over them, the busy step
(42_interface_ops.md R177), and the meanings of the SRC rows. -/

namespace Sys2Proof.Machine

/-! ## The rules of the Scanner (each runs after SrcRead) -/

/-- R101, R110: one more pending zero. -/
def scanZero (s : State) : State := { s with zrun := s.zrun + 1 }

/-- R102: the first start code is found. -/
def scanFirstStart (s : State) : State := { s with foundFirst := true, zrun := 0, slice := [] }

/-- R103, R104, R106: the initial-boundary check failed. -/
def scanNotAStream (s : State) : State := { s with event := some .notAStream }

/-- R105: the input was empty. -/
def scanEmpty (s : State) : State := { s with event := some .empty }

/-- R107, R115: the source reported failure e. -/
def scanFail (e : SrcErr) (s : State) : State := { s with event := some (.fail e) }

/-- R111: a delimiter ends the current slice; no pending zero is part of it. -/
def scanDelimiter (s : State) : State := { s with event := some (.slice s.slice), slice := [], zrun := 0 }

/-- R112, R113: the pending zeros and the byte are payload. -/
def scanPayload (b : Byte) (s : State) : State := s.commit (zeros s.zrun ++ [b])

/-- R114: end of input ends the current slice; the pending zeros are payload. -/
def scanLast (s : State) : State :=
  let t := s.commit (zeros s.zrun)
  match t.fault with
  | some _ => t
  | none => { t with event := some (.last t.slice), slice := [], zrun := 0 }

/-- `Scan(st, sym)` (R100), the transition table of R121. -/
def scan (sym : Symbol) (s : State) : State :=
  match sym with
  | .byte b =>
    if b = 0x00#8 then scanZero s
    else if b = 0x01#8 then
      if s.inUnit then
        if s.zerosReady then scanDelimiter s else scanPayload b s
      else
        if s.zerosReady then scanFirstStart s else scanNotAStream s
    else if s.inUnit then scanPayload b s else scanNotAStream s
  | .eof =>
    if s.inUnit then scanLast s
    else if s.zrun = 0 then scanEmpty s else scanNotAStream s
  | .fail e => scanFail e s

/-! ## The busy step -/

/-- The busy step of a SRC row (R177): enabled while a request is outstanding and no fault is recorded, and, for this row, while
the row's condition holds (else the word selects another row and this one has no effect; log entry 7). A fault inside it
leaves only `pos` and `fault` written. -/
def busyStep (selected : State → Bool) (rule : State → State) (s : State) : Result :=
  if s.reading && selected s then
    let read := s.srcRead
    let scanned := rule read
    match scanned.fault with
    | some r => .next (read.raiseFault r)
    | none =>
      match react scanned with
      | .next t =>
        match t.fault with
        | some r => .next (read.raiseFault r)
        | none => .next t
      | .fault r => .fault r
      | .refused r => .refused r
  else .next s

/-! ## The SRC rows -/

/-- BYTE_ZERO.SEEK_FIRST (R101). -/
def execByteZeroSeekFirst (s : State) : Result :=
  busyStep (fun s => s.seekFirst) scanZero s

/-- BYTE_ZERO.IN_UNIT (R110). -/
def execByteZeroInUnit (s : State) : Result :=
  busyStep (fun s => s.inUnit) scanZero s

/-- BYTE_ONE.SEEK_FIRST.START (R102). -/
def execByteOneSeekFirstStart (s : State) : Result :=
  busyStep (fun s => s.seekFirst && s.zerosReady) scanFirstStart s

/-- BYTE_ONE.SEEK_FIRST.NAS (R103). -/
def execByteOneSeekFirstNas (s : State) : Result :=
  busyStep (fun s => s.seekFirst && !s.zerosReady) scanNotAStream s

/-- BYTE_ONE.IN_UNIT.DELIM (R111). -/
def execByteOneInUnitDelim (s : State) : Result :=
  busyStep (fun s => s.inUnit && s.zerosReady) scanDelimiter s

/-- BYTE_ONE.IN_UNIT.PAYLOAD (R112). -/
def execByteOneInUnitPayload (s : State) : Result :=
  busyStep (fun s => s.inUnit && !s.zerosReady) (scanPayload 0x01#8) s

/-- BYTE_OTHER.SEEK_FIRST.02-03 (R104). -/
def execByteOtherSeekFirst02 (_b : BitVec 1) (s : State) : Result :=
  busyStep (fun s => s.seekFirst) scanNotAStream s

/-- BYTE_OTHER.SEEK_FIRST.04-07 (R104). -/
def execByteOtherSeekFirst04 (_b : BitVec 2) (s : State) : Result :=
  busyStep (fun s => s.seekFirst) scanNotAStream s

/-- BYTE_OTHER.SEEK_FIRST.08-0F (R104). -/
def execByteOtherSeekFirst08 (_b : BitVec 3) (s : State) : Result :=
  busyStep (fun s => s.seekFirst) scanNotAStream s

/-- BYTE_OTHER.SEEK_FIRST.10-1F (R104). -/
def execByteOtherSeekFirst10 (_b : BitVec 4) (s : State) : Result :=
  busyStep (fun s => s.seekFirst) scanNotAStream s

/-- BYTE_OTHER.SEEK_FIRST.20-3F (R104). -/
def execByteOtherSeekFirst20 (_b : BitVec 5) (s : State) : Result :=
  busyStep (fun s => s.seekFirst) scanNotAStream s

/-- BYTE_OTHER.SEEK_FIRST.40-7F (R104). -/
def execByteOtherSeekFirst40 (_b : BitVec 6) (s : State) : Result :=
  busyStep (fun s => s.seekFirst) scanNotAStream s

/-- BYTE_OTHER.SEEK_FIRST.80-FF (R104). -/
def execByteOtherSeekFirst80 (_b : BitVec 7) (s : State) : Result :=
  busyStep (fun s => s.seekFirst) scanNotAStream s

/-- BYTE_OTHER.IN_UNIT.02-03 (R113). -/
def execByteOtherInUnit02 (b : BitVec 1) (s : State) : Result :=
  busyStep (fun s => s.inUnit) (scanPayload (rangeByte 0x02 b)) s

/-- BYTE_OTHER.IN_UNIT.04-07 (R113). -/
def execByteOtherInUnit04 (b : BitVec 2) (s : State) : Result :=
  busyStep (fun s => s.inUnit) (scanPayload (rangeByte 0x04 b)) s

/-- BYTE_OTHER.IN_UNIT.08-0F (R113). -/
def execByteOtherInUnit08 (b : BitVec 3) (s : State) : Result :=
  busyStep (fun s => s.inUnit) (scanPayload (rangeByte 0x08 b)) s

/-- BYTE_OTHER.IN_UNIT.10-1F (R113). -/
def execByteOtherInUnit10 (b : BitVec 4) (s : State) : Result :=
  busyStep (fun s => s.inUnit) (scanPayload (rangeByte 0x10 b)) s

/-- BYTE_OTHER.IN_UNIT.20-3F (R113). -/
def execByteOtherInUnit20 (b : BitVec 5) (s : State) : Result :=
  busyStep (fun s => s.inUnit) (scanPayload (rangeByte 0x20 b)) s

/-- BYTE_OTHER.IN_UNIT.40-7F (R113). -/
def execByteOtherInUnit40 (b : BitVec 6) (s : State) : Result :=
  busyStep (fun s => s.inUnit) (scanPayload (rangeByte 0x40 b)) s

/-- BYTE_OTHER.IN_UNIT.80-FF (R113). -/
def execByteOtherInUnit80 (b : BitVec 7) (s : State) : Result :=
  busyStep (fun s => s.inUnit) (scanPayload (rangeByte 0x80 b)) s

/-- EOF.SEEK_FIRST.EMPTY (R105). -/
def execEofSeekFirstEmpty (s : State) : Result :=
  busyStep (fun s => s.seekFirst && decide (s.zrun = 0)) scanEmpty s

/-- EOF.SEEK_FIRST.NAS (R106). -/
def execEofSeekFirstNas (s : State) : Result :=
  busyStep (fun s => s.seekFirst && decide (0 < s.zrun)) scanNotAStream s

/-- EOF.IN_UNIT (R114). -/
def execEofInUnit (s : State) : Result :=
  busyStep (fun s => s.inUnit) scanLast s

/-- FAIL.SEEK_FIRST (R107). -/
def execFailSeekFirst (e : SrcErr) (s : State) : Result :=
  busyStep (fun s => s.seekFirst) (scanFail e) s

/-- FAIL.IN_UNIT (R115). -/
def execFailInUnit (e : SrcErr) (s : State) : Result :=
  busyStep (fun s => s.inUnit) (scanFail e) s

/-- SRC_RESERVED (30_encoding.md R85): the fault takes the place of the scanner step; the symbol counts as read. -/
def execSrcReserved (s : State) : Result :=
  if s.reading then .next (s.srcRead.raiseFault .reservedSourceTag) else .next s

end Sys2Proof.Machine
end

