-- ==== Sys2Proof/Machine/Dispatch.lean ====
section
/-! DEFINITION. exec: one arm per row of spec/opcode_table.json. -/

namespace Sys2Proof.Machine

def exec (i : Instr) (s : State) : Host.Outcome State Fault Refusal :=
  match i with
  | .nalType0 f nri => Sys2Proof.Machine.execNalType0 f nri s
  | .nalType1 f nri => Sys2Proof.Machine.execNalType1 f nri s
  | .nalType2 f nri => Sys2Proof.Machine.execNalType2 f nri s
  | .nalType3 f nri => Sys2Proof.Machine.execNalType3 f nri s
  | .nalType4 f nri => Sys2Proof.Machine.execNalType4 f nri s
  | .nalType5 f nri => Sys2Proof.Machine.execNalType5 f nri s
  | .nalType6 f nri => Sys2Proof.Machine.execNalType6 f nri s
  | .nalType7 f nri => Sys2Proof.Machine.execNalType7 f nri s
  | .nalType8 f nri => Sys2Proof.Machine.execNalType8 f nri s
  | .nalType9 f nri => Sys2Proof.Machine.execNalType9 f nri s
  | .nalType10 f nri => Sys2Proof.Machine.execNalType10 f nri s
  | .nalType11 f nri => Sys2Proof.Machine.execNalType11 f nri s
  | .nalType12 f nri => Sys2Proof.Machine.execNalType12 f nri s
  | .nalType13 f nri => Sys2Proof.Machine.execNalType13 f nri s
  | .nalType14 f nri => Sys2Proof.Machine.execNalType14 f nri s
  | .nalType15 f nri => Sys2Proof.Machine.execNalType15 f nri s
  | .nalType16 f nri => Sys2Proof.Machine.execNalType16 f nri s
  | .nalType17 f nri => Sys2Proof.Machine.execNalType17 f nri s
  | .nalType18 f nri => Sys2Proof.Machine.execNalType18 f nri s
  | .nalType19 f nri => Sys2Proof.Machine.execNalType19 f nri s
  | .nalType20 f nri => Sys2Proof.Machine.execNalType20 f nri s
  | .nalType21 f nri => Sys2Proof.Machine.execNalType21 f nri s
  | .nalType22 f nri => Sys2Proof.Machine.execNalType22 f nri s
  | .nalType23 f nri => Sys2Proof.Machine.execNalType23 f nri s
  | .nalType24 f nri => Sys2Proof.Machine.execNalType24 f nri s
  | .nalType25 f nri => Sys2Proof.Machine.execNalType25 f nri s
  | .nalType26 f nri => Sys2Proof.Machine.execNalType26 f nri s
  | .nalType27 f nri => Sys2Proof.Machine.execNalType27 f nri s
  | .nalType28 f nri => Sys2Proof.Machine.execNalType28 f nri s
  | .nalType29 f nri => Sys2Proof.Machine.execNalType29 f nri s
  | .nalType30 f nri => Sys2Proof.Machine.execNalType30 f nri s
  | .nalType31 f nri => Sys2Proof.Machine.execNalType31 f nri s
  | .nop => Sys2Proof.Machine.execNop s
  | .nextUnit => Sys2Proof.Machine.execNextUnit s
  | .reset => Sys2Proof.Machine.execReset s
  | .cmdReserved => Sys2Proof.Machine.execCmdReserved s
  | .byteZeroSeekFirst => Sys2Proof.Machine.execByteZeroSeekFirst s
  | .byteZeroInUnit => Sys2Proof.Machine.execByteZeroInUnit s
  | .byteOneSeekFirstStart => Sys2Proof.Machine.execByteOneSeekFirstStart s
  | .byteOneSeekFirstNas => Sys2Proof.Machine.execByteOneSeekFirstNas s
  | .byteOneInUnitDelim => Sys2Proof.Machine.execByteOneInUnitDelim s
  | .byteOneInUnitPayload => Sys2Proof.Machine.execByteOneInUnitPayload s
  | .byteOtherSeekFirst02 b => Sys2Proof.Machine.execByteOtherSeekFirst02 b s
  | .byteOtherSeekFirst04 b => Sys2Proof.Machine.execByteOtherSeekFirst04 b s
  | .byteOtherSeekFirst08 b => Sys2Proof.Machine.execByteOtherSeekFirst08 b s
  | .byteOtherSeekFirst10 b => Sys2Proof.Machine.execByteOtherSeekFirst10 b s
  | .byteOtherSeekFirst20 b => Sys2Proof.Machine.execByteOtherSeekFirst20 b s
  | .byteOtherSeekFirst40 b => Sys2Proof.Machine.execByteOtherSeekFirst40 b s
  | .byteOtherSeekFirst80 b => Sys2Proof.Machine.execByteOtherSeekFirst80 b s
  | .byteOtherInUnit02 b => Sys2Proof.Machine.execByteOtherInUnit02 b s
  | .byteOtherInUnit04 b => Sys2Proof.Machine.execByteOtherInUnit04 b s
  | .byteOtherInUnit08 b => Sys2Proof.Machine.execByteOtherInUnit08 b s
  | .byteOtherInUnit10 b => Sys2Proof.Machine.execByteOtherInUnit10 b s
  | .byteOtherInUnit20 b => Sys2Proof.Machine.execByteOtherInUnit20 b s
  | .byteOtherInUnit40 b => Sys2Proof.Machine.execByteOtherInUnit40 b s
  | .byteOtherInUnit80 b => Sys2Proof.Machine.execByteOtherInUnit80 b s
  | .eofSeekFirstEmpty => Sys2Proof.Machine.execEofSeekFirstEmpty s
  | .eofSeekFirstNas => Sys2Proof.Machine.execEofSeekFirstNas s
  | .eofInUnit => Sys2Proof.Machine.execEofInUnit s
  | .failSeekFirst e => Sys2Proof.Machine.execFailSeekFirst e s
  | .failInUnit e => Sys2Proof.Machine.execFailInUnit e s
  | .srcReserved => Sys2Proof.Machine.execSrcReserved s
  | .rspUnit info => Sys2Proof.Machine.execRspUnit info s
  | .rspEndOfStream => Sys2Proof.Machine.execRspEndOfStream s
  | .rspNotAStream => Sys2Proof.Machine.execRspNotAStream s
  | .rspSourceReadFailure info => Sys2Proof.Machine.execRspSourceReadFailure info s

end Sys2Proof.Machine
end

