-- ==== Sys2Proof/Machine/Fetch.lean ====
section
/-! DEFINITION. Which instruction a step runs next, and how a word is put where that instruction comes from. The core fetches no
instructions (spec 20_memory.md R63): its next operation is what the environment presents, one command or one symbol per step
(60_exceptions.md R208). -/

namespace Sys2Proof.Machine

/-- The byte source's turn: if a read is outstanding and the source has a symbol, that symbol's row; else nothing happens at the
source port, and the request port carries NOP (42_interface_ops.md R180; 70_reset_and_hazards.md R247). -/
def fetchSymbol (s : State) : Instr × State :=
  if s.reading then
    match s.source with
    | w :: _ => (decodeSource s.cfg s.foundFirst s.zrun w, s)
    | [] => (.nop, s)
  else (.nop, s)

/-- The ports' turn, in the order `inputs` gives. The environment repositioning the source (R244) leaves the core idle. With
nothing listed the source answers an outstanding read at once, else the request port carries NOP (30_encoding.md R80). -/
def fetchPort (s : State) : Instr × State :=
  match s.inputs with
  | .command w :: rest => (decodeCommand w, { s with inputs := rest })
  | .answer :: rest => fetchSymbol { s with inputs := rest }
  | .rebind stream :: rest => (.nop, { s with inputs := rest, source := stream })
  | [] => fetchSymbol s

/-- The next instruction and the state it runs in. A slice on the wire that waits for the Decoder comes first: its header
byte's row. No step of a run leaves one there (log entry 2). -/
def fetch (s : State) : Instr × State :=
  match s.waitingHeader with
  | some h => (decodeHeader h, s)
  | none => fetchPort s

/-- Put a command word on the request port. -/
def placeCommand (w : BitVec 2) (s : State) : State :=
  { s with event := none, inputs := .command w :: s.inputs }

/-- Have the source answer an outstanding read with this word, as the first symbol of a stream: a request is outstanding, no
fault is recorded, the phase is SEEK_FIRST with no zero read, and the words are those of ERR_W = 8 (log entry 8). -/
def placeSymbol (w : SrcWord) (s : State) : State :=
  { s with
    event := none, inputs := .answer :: s.inputs, source := w :: s.source, busy := true, fault := none,
    foundFirst := false, zrun := 0, cfg := { s.cfg with errW := 8 } }

/-- Put a one-byte slice, ended by a start code, on the wire to the Decoder inside an outstanding request (log entry 8). -/
def placeHeader (h : Byte) (s : State) : State :=
  { s with event := some (.slice [h]), foundFirst := true, busy := true, fault := none }

/-- Put a word of the opcode table where the next step takes its instruction from, in the format `decodeTableWord` reads it in. A
word that is no instruction changes nothing. -/
def placeTableWord (nbits w : Nat) (s : State) : State :=
  match decodeTableWord nbits w with
  | none => s
  | some _ =>
    match tableFormat nbits w with
    | some .cmd => placeCommand (BitVec.ofNat 2 w) s
    | some .src => placeSymbol (SrcWord.ofNat Config.softwareSemantics w) s
    | some .hdr => placeHeader (BitVec.ofNat 8 w) s
    | some .rsp => s
    | none => s

end Sys2Proof.Machine
end

