-- ==== Sys2Proof/Machine/Step.lean ====
section
/-! DEFINITION. One step of the machine: one command, one source symbol, or nothing at the ports (spec 60_exceptions.md R208). -/

namespace Sys2Proof.Machine

/-- Run the next instruction in the state that has taken it from the environment. -/
def step (s : State) : Host.Outcome State Fault Refusal := exec (fetch s).1 (fetch s).2

/-- The state in which the next step runs this word of spec/opcode_table.json. -/
def State.withFetchWord (s : State) (nbits w : Nat) : State := placeTableWord nbits w s

end Sys2Proof.Machine
end

