-- ==== Sys2Proof/Machine/NextUnit.lean ====
section
/-! DEFINITION. The source's "next unit" call as one function (spec 42_interface_ops.md R181), the DRAIN notation
(30_encoding.md R89) and the session notation for streams (R88). Step does not use them; statements compare them with it. -/

namespace Sys2Proof.Machine

/-- How a call ends within the fuel it is given: with a response, with a model fault, or still waiting for the source. DESIGN CHOICE
(log entry 19): the response stands beside the state, whose `out` is the caller's. -/
inductive CallResult where
  | answered (s : State) (r : Response)
  | faulted (s : State)
  | waiting (s : State)
  deriving DecidableEq, Repr

/-- R181's `Deliver(s)`: the response with `seq` counted, or SeqOverflow, after which only `pos` and `fault` are written. The
response is returned and not appended to `out` (DESIGN CHOICE, log entry 19).
`before` is the state after the read, `s` the state after the scan. -/
def deliverCall (h : Byte) (trailing : List Byte) (last : Bool) (before s : State) : CallResult :=
  if s.seqFull then .faulted (before.raiseFault .seqOverflow)
  else
    .answered { s with seq := s.seq + 1, dstate := .streaming, eofSeen := s.eofSeen || last, event := none }
      (.unit (unitOf h trailing s.seq))

/-- R181's loop, one iteration per busy step; no iteration where the source does not answer. DESIGN CHOICE (log entry 20): it does
not test `busy`, and on an instance already faulted it ends faulted once it has read a symbol. -/
def nextUnitLoop : Nat → State → CallResult
  | 0, s => .waiting s
  | fuel + 1, s =>
    match s.source with
    | [] => .waiting s
    | w :: rest =>
      let before : State := { s with pos := s.pos + 1, source := rest }
      match w.symbol s.cfg with
      | none => .faulted (before.raiseFault .reservedSourceTag)
      | some sym =>
        let t := scan sym before
        match t.fault with
        | some r => .faulted (before.raiseFault r)
        | none =>
          match t.event with
          | none => nextUnitLoop fuel t
          | some (.slice []) => nextUnitLoop fuel t.skipSlice
          | some (.slice (h :: rest)) =>
            if isSei h then nextUnitLoop fuel t.skipSlice else deliverCall h rest false before t
          | some (.last []) => .answered { t with eofSeen := true, dstate := .exhausted, event := none } .endOfStream
          | some (.last (h :: rest)) =>
            if isSei h then .answered { t with eofSeen := true, dstate := .exhausted, event := none } .endOfStream
            else deliverCall h rest true before t
          | some .empty => .answered { t with eofSeen := true, dstate := .exhausted, event := none } .endOfStream
          | some .notAStream => .answered { t with dstate := .errored, event := none } .notAStream
          | some (.fail e) =>
            .answered { t with dstate := .failed, failCode := some e, event := none } (.sourceReadFailure e)

/-- `NextUnit(st, src)` (R181); the source's remaining symbols are `s.source`, and `fuel` bounds the symbols read. DESIGN CHOICE: the
state returned has the caller's `out`, without the response (log entry 19); and, like R181's pseudocode, it tests neither `fault`
nor `busy`, so what it gives on an instance already faulted or busy is no answer of the machine (log entry 20). -/
def nextUnit (fuel : Nat) (s : State) : CallResult :=
  match s.dstate with
  | .exhausted => .answered s .endOfStream
  | .errored => .answered s .notAStream
  | .failed => .answered s (.sourceReadFailure s.failValue)
  | .beforeFirstUnit =>
    if s.eofSeen then .answered { s with dstate := .exhausted } .endOfStream else nextUnitLoop fuel s
  | .streaming =>
    if s.eofSeen then .answered { s with dstate := .exhausted } .endOfStream else nextUnitLoop fuel s

/-- `DRAIN` (R89): NEXT repeated until a response other than UNIT, at most `calls` times. DESIGN CHOICE (log entry 17): where no
such response comes (a NEXT ends in a model fault, the source does not answer, `fuel` or `calls` runs out) the list holds the
UNITs received so far and no terminal response, a case R89 states no list for. DESIGN CHOICE (log entry 20): started on an instance
already faulted or busy, where a NEXT of the machine gets no response, it is the list of what `nextUnit` gives there. -/
def drain (fuel : Nat) : Nat → State → List Response
  | 0, _ => []
  | calls + 1, s =>
    match nextUnit fuel s with
    | .answered t (.unit u) => .unit u :: drain fuel calls t
    | .answered _ r => [r]
    | .faulted _ => []
    | .waiting _ => []

/-- The BYTE word of a byte (R82). -/
def byteWord (b : Byte) : SrcWord := { tag := 0b00#2, data := b.toNat }

/-- The EOF word (R82). -/
def eofWord : SrcWord := { tag := 0b01#2, data := 0 }

/-- A stream of bytes followed by EOF (R88). -/
def streamOf (bytes : List Byte) : List SrcWord := bytes.map byteWord ++ [eofWord]

/-- A start code of `k` zeros (R75): `zeros(k) ++ [0x01]`. -/
def startCode (k : Nat) : List Byte := zeros k ++ [0x01#8]

end Sys2Proof.Machine
end

