-- ==== Sys2Proof/Safety.lean ====
section
/-! DEFINITION. What a good state is: the invariants of spec 10_state.md R35, 30_encoding.md R87, 40_scanner.md R122 and the
capacity limits, the end of a run (70_reset_and_hazards.md R251), and the saturated view of zrun (92_eei_decisions.md D20). -/

namespace Sys2Proof.Machine

/-- R35 (I1) to (I6) and (I9), and no scan event left on the wire between steps. -/
abbrev CoreInv (s : State) : Prop :=
  (s.foundFirst = false → s.slice = []) ∧
  (s.foundFirst = false → s.dstate ≠ .streaming) ∧
  (s.dstate = .errored → s.foundFirst = false) ∧
  (s.busy = true → s.terminal = false ∧ s.eofSeen = false) ∧
  (s.terminal = false → (s.dstate = .streaming ↔ 0 < s.seq)) ∧
  (s.failCode ≠ none ↔ s.dstate = .failed) ∧
  (s.slice ≠ [] → s.foundFirst = true) ∧
  s.event = none

/-- The units among the responses given, oldest first. -/
def State.units (s : State) : List NalUnit := s.out.filterMap Response.asUnit

/-- R154 and R35 (I7): the k-th UNIT carries index k, and `seq` is their number. -/
abbrev SequenceInv (s : State) : Prop := s.units.map NalUnit.sequenceIndex = List.range s.seq

/-- A byte list with two or more 0x00 followed by 0x01 somewhere in it. -/
def hasStartCode : List Byte → Bool
  | [] => false
  | b :: rest => (b == 0x00#8 && rest.take 2 == [0x00#8, 0x01#8]) || hasStartCode rest

/-- R87 and R122 for a delivered unit: its fields are those of its payload, its type is not 6, and its payload holds no start
code. -/
abbrev UnitOk (u : NalUnit) : Prop :=
  u.payload.head? = some u.header ∧ u.length = u.payload.length ∧ u.forbiddenBit = headerF u.header ∧
  u.referenceIdc = headerNri u.header ∧ u.unitType = headerType u.header ∧ u.unitType ≠ seiType ∧
  hasStartCode u.payload = false

/-- The committed bytes hold no start code and do not end in 0x00 (pending zeros are not in them, R23, R24), and every
delivered unit is right. -/
abbrev PayloadInv (s : State) : Prop :=
  hasStartCode s.slice = false ∧ s.slice.getLast? ≠ some 0x00#8 ∧ ∀ u ∈ s.units, UnitOk u

/-- The slice buffer and every delivered payload are within MAX_NAL_BYTES, and `seq` within SEQ_W (R24, R25, R120, R152). -/
abbrev CapacityInv (s : State) : Prop :=
  (∀ cap ∈ s.cfg.maxNalBytes, s.slice.length ≤ cap ∧ ∀ u ∈ s.units, u.payload.length ≤ cap) ∧
  (∀ w ∈ s.cfg.seqW, s.seq ≤ 2 ^ w)

/-- The end of a run (R251): no busy step is enabled and the consumer presents no further command. -/
def State.endOfRun (s : State) : Bool :=
  !s.reading && s.inputs.all fun i => match i with | .command _ => false | .answer => true | .rebind _ => true

/-- A successful end of a run (R251, R211). -/
def State.successful (s : State) : Bool := s.endOfRun && s.live

/-- The state a build holds that saturates zrun: at 2 in phase SEEK_FIRST, and at MAX_NAL_BYTES + 1 in phase IN_UNIT when that is
finite (R23, R120, D20). -/
def State.saturated (s : State) : State :=
  match s.foundFirst, s.cfg.maxNalBytes with
  | false, _ => { s with zrun := min s.zrun 2 }
  | true, some cap => { s with zrun := min s.zrun (cap + 1) }
  | true, none => s

/-- A function on the next state of an outcome. -/
def mapNext (f : State → State) : Result → Result
  | .next s => .next (f s)
  | .fault r => .fault r
  | .refused r => .refused r

end Sys2Proof.Machine
end

