-- ==== Sys2Proof/Certificates/Slice0/Obligations.lean ====
section
/-! DEFINITION. The statements for the provers, each from numbered rules of spec/. A record update `{ s with … }` as the next state
says the frame too: every field it does not name is unchanged. -/

open Sys2Proof Sys2Proof.Machine

/-- State.reset has dstate BEFORE_FIRST_UNIT, found_first false, zrun 0, slice [], seq 0, eof_seen false, fail_code none, busy false, fault none, pos 0 and out []. (R34) -/
def Obligations.ResetLeavesTheConstructionValues : Prop :=
  State.reset.dstate = .beforeFirstUnit ∧ State.reset.foundFirst = false ∧ State.reset.zrun = 0 ∧ State.reset.slice = [] ∧
  State.reset.seq = 0 ∧ State.reset.eofSeen = false ∧ State.reset.failCode = none ∧ State.reset.busy = false ∧
  State.reset.fault = none ∧ State.reset.pos = 0 ∧ State.reset.out = []

/-- For every header byte h: F = (h & 0x80) >> 7 = h[7], NRI = (h & 0x60) >> 5, TYPE = h & 0x1F, and decodeHeaderFields h is the triple of them; it is total and reads no state. (R71, R140) -/
def Obligations.HeaderFieldsAreTheMaskedBits : Prop :=
  ∀ h : Byte,
    (headerF h = true ↔ (h &&& 0x80#8) >>> 7 = 1#8) ∧ headerF h = h.getLsbD 7 ∧
    (headerNri h).setWidth 8 = (h &&& 0x60#8) >>> 5 ∧ (headerType h).setWidth 8 = h &&& 0x1F#8 ∧
    decodeHeaderFields h = (headerF h, headerNri h, headerType h)

/-- For every build and byte h, decodeHeader h is a row of format HDR whose encoding is h, and the decoder of header words accepts h with that row. (R70, R72, R73) -/
def Obligations.EveryHeaderByteDecodesToItsOwnRow : Prop :=
  ∀ (cfg : Config) (ff : Bool) (z : Nat) (h : Byte),
    (decodeHeader h).format = .hdr ∧ encode cfg (decodeHeader h) = h.toNat ∧
    decodeWord cfg ff z .hdr h.toNat = .ok (decodeHeader h)

/-- The command words 0 to 3, the header bytes 0x67 and 0xE6, the source words 0x000, 0x001, 0x041, 0x1FF, 0x205 and 0x3FF in their phases, and the response words 0x0AB, 0x100, 0x200 and 0x305 decode to the rows the spec gives them. The last clause is the model's choice: the core decodes no response word, and the model's decoder of them refuses 0x101, whose info is not 0 (log entry 13). (R80, R82, R86, R70) -/
def Obligations.SpecWordsDecode : Prop :=
  let c := Config.softwareSemantics
  decodeWord c false 0 .cmd 0b00 = .ok .nop ∧ decodeWord c false 0 .cmd 0b01 = .ok .nextUnit ∧
  decodeWord c false 0 .cmd 0b10 = .ok .reset ∧ decodeWord c false 0 .cmd 0b11 = .ok .cmdReserved ∧
  decodeWord c false 0 .hdr 0x67 = .ok (.nalType7 false 3#2) ∧ decodeWord c false 0 .hdr 0xE6 = .ok (.nalType6 true 3#2) ∧
  decodeWord c false 0 .src 0x000 = .ok .byteZeroSeekFirst ∧ decodeWord c true 0 .src 0x000 = .ok .byteZeroInUnit ∧
  decodeWord c false 2 .src 0x001 = .ok .byteOneSeekFirstStart ∧ decodeWord c false 1 .src 0x001 = .ok .byteOneSeekFirstNas ∧
  decodeWord c true 2 .src 0x001 = .ok .byteOneInUnitDelim ∧ decodeWord c true 1 .src 0x001 = .ok .byteOneInUnitPayload ∧
  decodeWord c true 0 .src 0x041 = .ok (.byteOtherInUnit40 1#6) ∧ decodeWord c false 0 .src 0x1FF = .ok .eofSeekFirstEmpty ∧
  decodeWord c true 0 .src 0x205 = .ok (.failInUnit 5) ∧ decodeWord c true 0 .src 0x3FF = .ok .srcReserved ∧
  decodeWord c true 0 .rsp 0x0AB = .ok (.rspUnit 0xAB#8) ∧ decodeWord c true 0 .rsp 0x100 = .ok .rspEndOfStream ∧
  decodeWord c true 0 .rsp 0x200 = .ok .rspNotAStream ∧ decodeWord c true 0 .rsp 0x305 = .ok (.rspSourceReadFailure 5#8) ∧
  decodeWord c true 0 .rsp 0x101 = .error .infoNotZero

/-- For every build, every scanner phase and zero count, and every well-formed instruction whose row condition holds there, the decoder of its format reads its word as that instruction, with every operand. That response words have a decoder, and that it takes RSP_UNIT with every info byte, is the model's (log entries 13 and 16). (R70, R80, R82, R84, R86, R121) -/
def Obligations.DecodeOfEncodeIsTheInstruction : Prop :=
  ∀ (cfg : Config) (ff : Bool) (z : Nat) (i : Instr),
    i.wellFormed cfg = true → i.rowCondition ff z = true → decodeWord cfg ff z i.format (encode cfg i) = .ok i

/-- For every build, phase, zero count and source word, the row the decoder selects is of format SRC, its condition on found_first and zrun holds, and it is well-formed. (R121, R82, R85) -/
def Obligations.SourceWordSelectsOneRow : Prop :=
  ∀ (cfg : Config) (ff : Bool) (z : Nat) (w : SrcWord),
    (decodeSource cfg ff z w).format = .src ∧ (decodeSource cfg ff z w).rowCondition ff z = true ∧
    (decodeSource cfg ff z w).wellFormed cfg = true

/-- For tag 0b00 the row is that of the byte data[7:0] when the D-bit data field is below 256 and SRC_RESERVED otherwise; and a word is SRC_RESERVED exactly when its tag is 0b11 or it is such a BYTE word. (R83) -/
def Obligations.ByteWordWithHighBitIsReserved : Prop :=
  ∀ (cfg : Config) (ff : Bool) (z : Nat) (w : SrcWord),
    (w.tag = 0b00#2 → w.dataField cfg < 256 →
      decodeSource cfg ff z w = byteRow ff z (BitVec.ofNat 8 (w.dataField cfg))) ∧
    (w.tag = 0b00#2 → 256 ≤ w.dataField cfg → decodeSource cfg ff z w = .srcReserved) ∧
    (decodeSource cfg ff z w = .srcReserved ↔ w.tag = 0b11#2 ∨ (w.tag = 0b00#2 ∧ 256 ≤ w.dataField cfg))

/-- For every build: the header word of a UNIT is its header byte, of END_OF_STREAM 0x100, of NOT_A_STREAM 0x200, of SOURCE_READ_FAILURE(e) 0x300 plus e mod 256. (R86) -/
def Obligations.ResponseWordsCarryTagAndInfo : Prop :=
  ∀ cfg : Config,
    (∀ u : NalUnit, (responseWord cfg (.unit u)).toNat = u.header.toNat) ∧
    responseWord cfg .endOfStream = 0x100#10 ∧ responseWord cfg .notAStream = 0x200#10 ∧
    (∀ e : SrcErr, (responseWord cfg (.sourceReadFailure e)).toNat = 0x300 + e % 256)

/-- For every state, exec of NOP answers the same state. (R180) -/
def Obligations.NopHasNoEffect : Prop :=
  ∀ s : State, exec .nop s = .next s

/-- With no fault, busy false, dstate BEFORE_FIRST_UNIT or STREAMING and eof_seen false, exec of NEXT_UNIT answers the state with busy set. (R171) -/
def Obligations.NextUnitAcceptedSetsBusy : Prop :=
  ∀ s : State, s.fault = none → s.busy = false → (s.dstate = .beforeFirstUnit ∨ s.dstate = .streaming) → s.eofSeen = false →
    exec .nextUnit s = .next { s with busy := true }

/-- With no fault and busy false, exec of NEXT_UNIT only appends END_OF_STREAM in EXHAUSTED, NOT_A_STREAM in ERRORED, and SOURCE_READ_FAILURE(fail_code) in FAILED. (R172, R173, R174) -/
def Obligations.NextUnitRepeatsItsTerminalSignal : Prop :=
  ∀ s : State, s.fault = none → s.busy = false →
    (s.dstate = .exhausted → exec .nextUnit s = .next { s with out := s.out ++ [.endOfStream] }) ∧
    (s.dstate = .errored → exec .nextUnit s = .next { s with out := s.out ++ [.notAStream] }) ∧
    (∀ e : SrcErr, s.dstate = .failed → s.failCode = some e →
      exec .nextUnit s = .next { s with out := s.out ++ [.sourceReadFailure e] })

/-- With no fault, busy false, dstate BEFORE_FIRST_UNIT or STREAMING and eof_seen true, exec of NEXT_UNIT writes dstate EXHAUSTED and appends END_OF_STREAM; event, the model's own wire, is left none. (R175) -/
def Obligations.NextUnitAfterEofEndsTheStream : Prop :=
  ∀ s : State, s.fault = none → s.busy = false → (s.dstate = .beforeFirstUnit ∨ s.dstate = .streaming) → s.eofSeen = true →
    exec .nextUnit s = .next { s with dstate := .exhausted, out := s.out ++ [.endOfStream], event := none }

/-- With no fault and busy true, exec of NEXT_UNIT answers the state with fault ConcurrentRequest. (R176) -/
def Obligations.NextUnitWhileBusyFaults : Prop :=
  ∀ s : State, s.fault = none → s.busy = true → exec .nextUnit s = .next { s with fault := some .concurrentRequest }

/-- In every state, busy and faulted ones included, exec of RESET answers the reset values of R34 and appends the ended instance's out and fault to past. That the build (log entry 1) and the environment (log entry 3) are left as they are, and the field past itself (log entry 4), is the model's choice. (R178, R242, R34) -/
def Obligations.ResetConstructsANewReader : Prop :=
  ∀ s : State,
    exec .reset s = .next
      { dstate := .beforeFirstUnit, foundFirst := false, zrun := 0, slice := [], seq := 0, eofSeen := false, failCode := none,
        busy := false, fault := none, pos := 0, out := [], cfg := s.cfg, event := none, source := s.source,
        inputs := s.inputs, past := s.past ++ [{ out := s.out, fault := s.fault }] }

/-- With no fault recorded, exec of CMD_RESERVED answers the state with fault ReservedCommand, whatever else the state holds. (R179, R81, R182) -/
def Obligations.ReservedCommandFaults : Prop :=
  ∀ s : State, s.fault = none → exec .cmdReserved s = .next { s with fault := some .reservedCommand }

/-- With a request outstanding and no fault, BYTE_ZERO.SEEK_FIRST (found_first false) and BYTE_ZERO.IN_UNIT (found_first true) answer zrun + 1, pos + 1 and the symbol consumed. (R101, R110) -/
def Obligations.ZeroByteIsCounted : Prop :=
  ∀ s : State, s.busy = true → s.fault = none →
    (s.foundFirst = false → exec .byteZeroSeekFirst s = .next { s with pos := s.pos + 1, source := s.source.tail, event := none, zrun := s.zrun + 1 }) ∧
    (s.foundFirst = true → exec .byteZeroInUnit s = .next { s with pos := s.pos + 1, source := s.source.tail, event := none, zrun := s.zrun + 1 })

/-- With a request outstanding, no fault, found_first false and zrun >= 2, BYTE_ONE.SEEK_FIRST.START sets found_first, zrun 0 and slice [], reads one symbol, and the request goes on. (R102) -/
def Obligations.FirstStartCodeOpensTheUnit : Prop :=
  ∀ s : State, s.busy = true → s.fault = none → s.foundFirst = false → 2 ≤ s.zrun →
    exec .byteOneSeekFirstStart s =
      .next { s with pos := s.pos + 1, source := s.source.tail, event := none, foundFirst := true, zrun := 0, slice := [] }

/-- With a request outstanding, no fault, found_first false and zrun < 2, BYTE_ONE.SEEK_FIRST.NAS ends the request with NOT_A_STREAM and dstate ERRORED; zrun and slice stay. (R103, R151) -/
def Obligations.EarlyOneIsNotAStream : Prop :=
  ∀ s : State, s.busy = true → s.fault = none → s.foundFirst = false → s.zrun < 2 →
    exec .byteOneSeekFirstNas s =
      .next { s with pos := s.pos + 1, source := s.source.tail, event := none, dstate := .errored, busy := false, out := s.out ++ [.notAStream] }

/-- With a request outstanding, no fault and found_first false, each of the seven BYTE_OTHER.SEEK_FIRST rows ends the request with NOT_A_STREAM and dstate ERRORED, for every operand. (R104) -/
def Obligations.EarlyOtherByteIsNotAStream : Prop :=
  ∀ s : State, s.busy = true → s.fault = none → s.foundFirst = false →
    ∀ (b1 : BitVec 1) (b2 : BitVec 2) (b3 : BitVec 3) (b4 : BitVec 4) (b5 : BitVec 5) (b6 : BitVec 6) (b7 : BitVec 7),
      ∀ i ∈ [Instr.byteOtherSeekFirst02 b1, .byteOtherSeekFirst04 b2, .byteOtherSeekFirst08 b3, .byteOtherSeekFirst10 b4,
          .byteOtherSeekFirst20 b5, .byteOtherSeekFirst40 b6, .byteOtherSeekFirst80 b7],
        exec i s =
          .next { s with pos := s.pos + 1, source := s.source.tail, event := none, dstate := .errored, busy := false, out := s.out ++ [.notAStream] }

/-- With a request outstanding, no fault, found_first false and zrun 0, EOF.SEEK_FIRST.EMPTY sets eof_seen and dstate EXHAUSTED and ends the request with END_OF_STREAM. (R105, R150) -/
def Obligations.EmptyInputEndsTheStream : Prop :=
  ∀ s : State, s.busy = true → s.fault = none → s.foundFirst = false → s.zrun = 0 →
    exec .eofSeekFirstEmpty s =
      .next
        { s with
          pos := s.pos + 1, source := s.source.tail, event := none, dstate := .exhausted, eofSeen := true, busy := false,
          out := s.out ++ [.endOfStream] }

/-- With a request outstanding, no fault, found_first false and zrun > 0, EOF.SEEK_FIRST.NAS ends the request with NOT_A_STREAM and dstate ERRORED. (R106) -/
def Obligations.ZerosThenEofIsNotAStream : Prop :=
  ∀ s : State, s.busy = true → s.fault = none → s.foundFirst = false → 0 < s.zrun →
    exec .eofSeekFirstNas s =
      .next { s with pos := s.pos + 1, source := s.source.tail, event := none, dstate := .errored, busy := false, out := s.out ++ [.notAStream] }

/-- With a request outstanding and no fault, FAIL.SEEK_FIRST (found_first false) and FAIL.IN_UNIT (found_first true) write dstate FAILED and fail_code e and append SOURCE_READ_FAILURE(e); slice and zrun stay, and no unit is given. (R107, R115, R153) -/
def Obligations.ReadFailureIsPropagated : Prop :=
  ∀ (s : State) (e : SrcErr), s.busy = true → s.fault = none →
    (s.foundFirst = false → exec (.failSeekFirst e) s =
      .next
        { s with
          pos := s.pos + 1, source := s.source.tail, event := none, dstate := .failed, failCode := some e, busy := false,
          out := s.out ++ [.sourceReadFailure e] }) ∧
    (s.foundFirst = true → exec (.failInUnit e) s =
      .next
        { s with
          pos := s.pos + 1, source := s.source.tail, event := none, dstate := .failed, failCode := some e, busy := false,
          out := s.out ++ [.sourceReadFailure e] })

/-- With a request outstanding, no fault, found_first true and zrun >= 2, BYTE_ONE.IN_UNIT.DELIM clears slice and zrun; an empty slice and one whose header has type 6 give no response and the request goes on; any other slice is delivered with the next index, dstate STREAMING, and the request ends; where the index does not fit SEQ_W, only the read and fault SeqOverflow are written. (R111, R144, R145, R146) -/
def Obligations.DelimiterEndsTheSlice : Prop :=
  ∀ s : State, s.busy = true → s.fault = none → s.foundFirst = true → 2 ≤ s.zrun →
    (s.slice = [] → exec .byteOneInUnitDelim s = .next { s with pos := s.pos + 1, source := s.source.tail, event := none, slice := [], zrun := 0 }) ∧
    (∀ (h : Byte) (t : List Byte), s.slice = h :: t → headerType h = 6#5 →
      exec .byteOneInUnitDelim s = .next { s with pos := s.pos + 1, source := s.source.tail, event := none, slice := [], zrun := 0 }) ∧
    (∀ (h : Byte) (t : List Byte), s.slice = h :: t → headerType h ≠ 6#5 → (∀ w ∈ s.cfg.seqW, s.seq < 2 ^ w) →
      exec .byteOneInUnitDelim s =
        .next
          { s with
            pos := s.pos + 1, source := s.source.tail, event := none, slice := [], zrun := 0, seq := s.seq + 1,
            dstate := .streaming, busy := false,
            out := s.out ++ [.unit
              { payload := h :: t, length := t.length + 1, header := h, forbiddenBit := headerF h,
                referenceIdc := headerNri h, unitType := headerType h, sequenceIndex := s.seq }] }) ∧
    (∀ (h : Byte) (t : List Byte), s.slice = h :: t → headerType h ≠ 6#5 → (∃ w ∈ s.cfg.seqW, 2 ^ w ≤ s.seq) →
      exec .byteOneInUnitDelim s = .next { s with pos := s.pos + 1, source := s.source.tail, event := none, fault := some .seqOverflow })

/-- With a request outstanding, no fault, found_first true and zrun < 2, BYTE_ONE.IN_UNIT.PAYLOAD appends the pending zeros and 0x01 to slice and clears zrun when they fit MAX_NAL_BYTES; when they do not, it writes only the read and fault CapacityExceeded. (R112) -/
def Obligations.EarlyOneInAUnitIsPayload : Prop :=
  ∀ s : State, s.busy = true → s.fault = none → s.foundFirst = true → s.zrun < 2 →
    ((∀ cap ∈ s.cfg.maxNalBytes, s.slice.length + (s.zrun + 1) ≤ cap) →
      exec .byteOneInUnitPayload s =
        .next { s with pos := s.pos + 1, source := s.source.tail, event := none, slice := s.slice ++ (zeros s.zrun ++ [0x01#8]), zrun := 0 }) ∧
    ((∃ cap ∈ s.cfg.maxNalBytes, cap < s.slice.length + (s.zrun + 1)) →
      exec .byteOneInUnitPayload s = .next { s with pos := s.pos + 1, source := s.source.tail, event := none, fault := some .capacityExceeded })

/-- With a request outstanding, no fault and found_first true, each of the seven BYTE_OTHER.IN_UNIT rows appends the pending zeros and its byte to slice and clears zrun when they fit MAX_NAL_BYTES; when they do not, it writes only the read and fault CapacityExceeded. (R113) -/
def Obligations.OtherByteInAUnitIsPayload : Prop :=
  ∀ s : State, s.busy = true → s.fault = none → s.foundFirst = true →
    ∀ (b1 : BitVec 1) (b2 : BitVec 2) (b3 : BitVec 3) (b4 : BitVec 4) (b5 : BitVec 5) (b6 : BitVec 6) (b7 : BitVec 7),
      ∀ r ∈ [(Instr.byteOtherInUnit02 b1, BitVec.ofNat 8 (0x02 + b1.toNat)), (.byteOtherInUnit04 b2, BitVec.ofNat 8 (0x04 + b2.toNat)),
          (.byteOtherInUnit08 b3, BitVec.ofNat 8 (0x08 + b3.toNat)), (.byteOtherInUnit10 b4, BitVec.ofNat 8 (0x10 + b4.toNat)),
          (.byteOtherInUnit20 b5, BitVec.ofNat 8 (0x20 + b5.toNat)), (.byteOtherInUnit40 b6, BitVec.ofNat 8 (0x40 + b6.toNat)),
          (.byteOtherInUnit80 b7, BitVec.ofNat 8 (0x80 + b7.toNat))],
        ((∀ cap ∈ s.cfg.maxNalBytes, s.slice.length + (s.zrun + 1) ≤ cap) →
          exec r.1 s = .next { s with pos := s.pos + 1, source := s.source.tail, event := none, slice := s.slice ++ (zeros s.zrun ++ [r.2]), zrun := 0 }) ∧
        ((∃ cap ∈ s.cfg.maxNalBytes, cap < s.slice.length + (s.zrun + 1)) →
          exec r.1 s = .next { s with pos := s.pos + 1, source := s.source.tail, event := none, fault := some .capacityExceeded })

/-- With a request outstanding, no fault, found_first true and the pending zeros within MAX_NAL_BYTES, EOF.IN_UNIT takes slice ++ zeros(zrun) as the last slice, clears slice and zrun and sets eof_seen; an empty slice and one of type 6 end the request with END_OF_STREAM and dstate EXHAUSTED; any other is delivered with the next index and dstate STREAMING; where the index does not fit SEQ_W, only the read and fault SeqOverflow are written. (R147, R148, R149) -/
def Obligations.EofEndsTheLastSlice : Prop :=
  ∀ s : State, s.busy = true → s.fault = none → s.foundFirst = true →
    (∀ cap ∈ s.cfg.maxNalBytes, s.slice.length + s.zrun ≤ cap) →
    (s.slice ++ zeros s.zrun = [] → exec .eofInUnit s =
      .next
        { s with
          pos := s.pos + 1, source := s.source.tail, event := none, dstate := .exhausted, eofSeen := true, busy := false,
          out := s.out ++ [.endOfStream], slice := [], zrun := 0 }) ∧
    (∀ (h : Byte) (t : List Byte), s.slice ++ zeros s.zrun = h :: t → headerType h = 6#5 → exec .eofInUnit s =
      .next
        { s with
          pos := s.pos + 1, source := s.source.tail, event := none, dstate := .exhausted, eofSeen := true, busy := false,
          out := s.out ++ [.endOfStream], slice := [], zrun := 0 }) ∧
    (∀ (h : Byte) (t : List Byte), s.slice ++ zeros s.zrun = h :: t → headerType h ≠ 6#5 →
      (∀ w ∈ s.cfg.seqW, s.seq < 2 ^ w) → exec .eofInUnit s =
      .next
        { s with
          pos := s.pos + 1, source := s.source.tail, event := none, slice := [], zrun := 0, seq := s.seq + 1,
          dstate := .streaming, eofSeen := true, busy := false,
          out := s.out ++ [.unit
            { payload := h :: t, length := t.length + 1, header := h, forbiddenBit := headerF h,
              referenceIdc := headerNri h, unitType := headerType h, sequenceIndex := s.seq }] }) ∧
    (∀ (h : Byte) (t : List Byte), s.slice ++ zeros s.zrun = h :: t → headerType h ≠ 6#5 →
      (∃ w ∈ s.cfg.seqW, 2 ^ w ≤ s.seq) →
      exec .eofInUnit s = .next { s with pos := s.pos + 1, source := s.source.tail, event := none, fault := some .seqOverflow })

/-- With a request outstanding, no fault, found_first true and slice plus pending zeros beyond a finite MAX_NAL_BYTES, EOF.IN_UNIT writes only the read and fault CapacityExceeded. (R114, R120, R209) -/
def Obligations.EofBeyondCapacityFaults : Prop :=
  ∀ s : State, s.busy = true → s.fault = none → s.foundFirst = true →
    (∃ cap ∈ s.cfg.maxNalBytes, cap < s.slice.length + s.zrun) →
    exec .eofInUnit s = .next { s with pos := s.pos + 1, source := s.source.tail, event := none, fault := some .capacityExceeded }

/-- With a request outstanding, no fault, seq >= 2^SEQ_W and a non-empty slice on the wire, the row of every header byte whose type is not 6 writes only fault SeqOverflow. That a header row runs alone on the field event is the model's (log entry 2). (R152, R209) -/
def Obligations.HeaderRowWithFullIndexFaults : Prop :=
  ∀ (s : State) (h g : Byte) (t : List Byte), s.busy = true → s.fault = none → (∃ w ∈ s.cfg.seqW, 2 ^ w ≤ s.seq) →
    headerType h ≠ 6#5 → (s.event = some (.slice (g :: t)) ∨ s.event = some (.last (g :: t))) →
    exec (decodeHeader h) s = .next { s with fault := some .seqOverflow }

/-- With a request outstanding and no fault, SRC_RESERVED writes pos + 1, consumes the symbol and records fault ReservedSourceTag, in either phase; nothing else changes. (R85, R177) -/
def Obligations.ReservedSourceWordFaults : Prop :=
  ∀ s : State, s.busy = true → s.fault = none →
    exec .srcReserved s = .next { s with pos := s.pos + 1, source := s.source.tail, event := none, fault := some .reservedSourceTag }

/-- With a request outstanding, no fault, an index that fits SEQ_W and a non-empty slice on the wire, each of the rows NAL_TYPE_0 to 5 and 7 to 31 emits the UNIT with its fields and the next index, sets dstate STREAMING and ends the request; when end of input ended the slice it also sets eof_seen. That a header row reads its slice from the field event is the model's (log entry 2). (R146, R149, R152, R141, R142, R143) -/
def Obligations.DeliveredTypesEmitTheUnit : Prop :=
  ∀ (s : State) (f : Bool) (nri : BitVec 2) (g : Byte) (t : List Byte), s.busy = true → s.fault = none →
    (∀ w ∈ s.cfg.seqW, s.seq < 2 ^ w) →
    ∀ r ∈ [
        (Instr.nalType0 f nri, 0#5), (.nalType1 f nri, 1#5), (.nalType2 f nri, 2#5), (.nalType3 f nri, 3#5),
        (.nalType4 f nri, 4#5), (.nalType5 f nri, 5#5), (.nalType7 f nri, 7#5), (.nalType8 f nri, 8#5),
        (.nalType9 f nri, 9#5), (.nalType10 f nri, 10#5), (.nalType11 f nri, 11#5), (.nalType12 f nri, 12#5),
        (.nalType13 f nri, 13#5), (.nalType14 f nri, 14#5), (.nalType15 f nri, 15#5), (.nalType16 f nri, 16#5),
        (.nalType17 f nri, 17#5), (.nalType18 f nri, 18#5), (.nalType19 f nri, 19#5), (.nalType20 f nri, 20#5),
        (.nalType21 f nri, 21#5), (.nalType22 f nri, 22#5), (.nalType23 f nri, 23#5), (.nalType24 f nri, 24#5),
        (.nalType25 f nri, 25#5), (.nalType26 f nri, 26#5), (.nalType27 f nri, 27#5), (.nalType28 f nri, 28#5),
        (.nalType29 f nri, 29#5), (.nalType30 f nri, 30#5), (.nalType31 f nri, 31#5)],
      (s.event = some (.slice (g :: t)) → exec r.1 s =
        .next
          { s with
            event := none, seq := s.seq + 1, dstate := .streaming, busy := false,
            out := s.out ++ [.unit
              { payload := headerByte f nri r.2 :: t, length := t.length + 1, header := headerByte f nri r.2, forbiddenBit := f,
                referenceIdc := nri, unitType := r.2, sequenceIndex := s.seq }] }) ∧
      (s.event = some (.last (g :: t)) → exec r.1 s =
        .next
          { s with
            event := none, seq := s.seq + 1, dstate := .streaming, busy := false, eofSeen := true,
            out := s.out ++ [.unit
              { payload := headerByte f nri r.2 :: t, length := t.length + 1, header := headerByte f nri r.2, forbiddenBit := f,
                referenceIdc := nri, unitType := r.2, sequenceIndex := s.seq }] })

/-- With a request outstanding, no fault and a non-empty slice on the wire, NAL_TYPE_6 writes nothing but the wire when a start code ended the slice, and ends the request with END_OF_STREAM, eof_seen and dstate EXHAUSTED when end of input did; for every F and NRI. That a header row runs alone on the slice in the field event is the model's (log entry 2). (R145, R148, R76) -/
def Obligations.SeiIsFiltered : Prop :=
  ∀ (s : State) (f : Bool) (nri : BitVec 2) (g : Byte) (t : List Byte), s.busy = true → s.fault = none →
    (s.event = some (.slice (g :: t)) → exec (.nalType6 f nri) s = .next { s with event := none }) ∧
    (s.event = some (.last (g :: t)) → exec (.nalType6 f nri) s =
      .next
        { s with
          event := none, dstate := .exhausted, eofSeen := true, busy := false, out := s.out ++ [.endOfStream] })

/-- For every header row: with busy false, a fault recorded, or no non-empty slice on the wire the state stays as it is. That a header row can be run where the Decoder decodes no header is the model's (log entry 2). (R140, R144, R182) -/
def Obligations.HeaderRowWithoutASliceHasNoEffect : Prop :=
  ∀ (i : Instr) (s : State), i.format = .hdr → (s.busy = false ∨ s.fault ≠ none ∨ eventSlice s.event = []) →
    exec i s = .next s

/-- With no fault: RSP_UNIT appends the UNIT of its header byte, the rest of the slice on the wire and seq; RSP_END_OF_STREAM and RSP_NOT_A_STREAM append their signal; RSP_SOURCE_READ_FAILURE appends a code whose low byte is its info, and the recorded code when info is that one's low byte. Where the rest of a unit and of a code come from when a row is run on its own is the model's (log entry 2), and so is RSP_UNIT with an info byte of type 6 (log entry 16). (R64, R86, R87) -/
def Obligations.ResponseRowsEmit : Prop :=
  ∀ s : State, s.fault = none →
    (∀ info : Byte, exec (.rspUnit info) s =
      .next
        { s with
          out := s.out ++ [.unit
            { payload := info :: (eventSlice s.event).tail, length := (eventSlice s.event).tail.length + 1, header := info,
              forbiddenBit := headerF info, referenceIdc := headerNri info, unitType := headerType info,
              sequenceIndex := s.seq }] }) ∧
    exec .rspEndOfStream s = .next { s with out := s.out ++ [.endOfStream] } ∧
    exec .rspNotAStream s = .next { s with out := s.out ++ [.notAStream] } ∧
    (∀ info : Byte, ∃ e : SrcErr, e % 256 = info.toNat ∧
      exec (.rspSourceReadFailure info) s = .next { s with out := s.out ++ [.sourceReadFailure e] }) ∧
    (∀ e : SrcErr, s.failCode = some e →
      exec (.rspSourceReadFailure (BitVec.ofNat 8 e)) s = .next { s with out := s.out ++ [.sourceReadFailure e] })

/-- With no header byte waiting: a command at the head of inputs runs as its decoded row with the input removed; inside a request a source symbol whose turn it is (an answer listed next, or nothing listed) runs as the row it selects; an answer with no read outstanding or no symbol, a repositioning, and nothing to do run NOP. A header byte that waits runs as its row. The model's are: that a header byte waiting on the wire runs before the ports (log entry 2), the order given by inputs and NOP where nothing is to do (log entry 3), and the repositioning of the source as an input (log entry 12). (R170, R177, R208) -/
def Obligations.StepRunsTheDecodedInstruction : Prop :=
  ∀ (s : State),
    (∀ h : Byte, s.waitingHeader = some h → step s = exec (decodeHeader h) s) ∧
    (s.waitingHeader = none →
      (∀ (w : BitVec 2) (rest : List Input), s.inputs = .command w :: rest →
        step s = exec (decodeCommand w) { s with inputs := rest }) ∧
      (∀ (w : SrcWord) (ws : List SrcWord) (rest : List Input), s.busy = true → s.fault = none → s.source = w :: ws →
        s.inputs = .answer :: rest →
        step s = exec (decodeSource s.cfg s.foundFirst s.zrun w) { s with inputs := rest }) ∧
      (∀ (w : SrcWord) (ws : List SrcWord), s.busy = true → s.fault = none → s.source = w :: ws → s.inputs = [] →
        step s = exec (decodeSource s.cfg s.foundFirst s.zrun w) s) ∧
      (∀ rest : List Input, (s.busy = false ∨ s.fault ≠ none ∨ s.source = []) → s.inputs = .answer :: rest →
        step s = exec .nop { s with inputs := rest }) ∧
      (∀ (ws : List SrcWord) (rest : List Input), s.inputs = .rebind ws :: rest →
        step s = exec .nop { s with inputs := rest, source := ws }) ∧
      ((s.busy = false ∨ s.fault ≠ none ∨ s.source = []) → s.inputs = [] → step s = exec .nop s))

/-- For every state and every word the table decoder reads as an instruction, the next fetch from the state with that word placed gives that instruction. The whole statement is about the model's own definitions: the core fetches no instructions (R63), and how a bare word is read and placed is the model's choice (log entries 6 and 8). (R63) -/
def Obligations.PlacedTableWordIsFetched : Prop :=
  ∀ (s : State) (nbits w : Nat) (i : Instr), decodeTableWord nbits w = some i → (fetch (s.withFetchWord nbits w)).1 = i

/-- With no event on the wire, no symbol in the source and no further input, every number of steps leaves the state as it is, busy included. That the wait is a step on which nothing happens is the model's (log entry 3). (R247, R61) -/
def Obligations.StalledRequestWaitsForever : Prop :=
  ∀ s : State, s.event = none → s.source = [] → s.inputs = [] →
    ∀ k : Nat, Host.Core.run Sys2Proof.core k s = .next s

/-- For every row and every state, exec answers a next state: no fault and no refusal of the model stands where the spec gives an effect. That a row whose condition does not hold has no effect is the model's (log entry 7). (R72, R204, R210) -/
def Obligations.NoOperationStopsTheMachine : Prop :=
  ∀ (i : Instr) (s : State), ∃ t : State, exec i s = .next t

/-- For every SRC row: with busy false the state stays as it is, and so it does when the row's condition on found_first and zrun fails. The second clause is the model's choice for a row that the decoder does not select (log entry 7). (R57, R177) -/
def Obligations.UnselectedRowHasNoEffect : Prop :=
  ∀ (i : Instr) (s : State), i.format = .src →
    (s.busy = false → exec i s = .next s) ∧
    (i.rowCondition s.foundFirst s.zrun = false → exec i s = .next s)

/-- With fault not none: exec of every row but RESET answers the same state, so no busy step runs and no response is emitted; a step whose command is not RESET changes only inputs and, by a repositioning, source; no busy step is enabled; and the state is no successful end of a run. (R182) -/
def Obligations.FaultedInstanceTakesNoStep : Prop :=
  ∀ s : State, s.fault ≠ none →
    (∀ i : Instr, i ≠ .reset → exec i s = .next s) ∧
    (∀ t : State, step s = .next t → (∀ rest : List Input, s.inputs ≠ .command 0b10#2 :: rest) →
      t = { s with inputs := t.inputs, source := t.source }) ∧
    s.reading = false ∧ s.successful = false

/-- For every SRC row: if it starts with no fault and ends with one, the next state is the old one with pos + 1, the symbol consumed, the wire clear and that fault. (R177, R209, R210) -/
def Obligations.FaultingBusyStepWritesOnlyPosAndFault : Prop :=
  ∀ (i : Instr) (s t : State) (r : FaultReason), i.format = .src → s.fault = none → exec i s = .next t → t.fault = some r →
    t = { s with pos := s.pos + 1, source := s.source.tail, event := none, fault := some r }

/-- With dstate EXHAUSTED, ERRORED or FAILED and no request outstanding, every row but RESET leaves every field but out and fault as it was. (R37) -/
def Obligations.TerminalInstanceIsFrozen : Prop :=
  ∀ (i : Instr) (s t : State), s.terminal = true → s.busy = false → i ≠ .reset → exec i s = .next t →
    t = { s with out := t.out, fault := t.fault }

/-- From every state a step leaves out as it was or appends exactly one response, past staying as it was; or the step was RESET, out is empty and the old out stands at the end of past. The field past is the model's (log entry 4). (R31, R56, R64, R156, R178) -/
def Obligations.ResponsesAreNeverRewritten : Prop :=
  ∀ s t : State, step s = .next t →
    (t.past = s.past ∧ (t.out = s.out ∨ ∃ r : Response, t.out = s.out ++ [r])) ∨
    (t.out = [] ∧ t.past = s.past ++ [{ out := s.out, fault := s.fault }] ∧
      ∃ rest : List Input, s.inputs = .command 0b10#2 :: rest)

/-- A step either leaves source and pos, or takes exactly the first symbol of source inside a request with no fault and adds 1 to pos; otherwise it was a RESET (pos 0, source kept) or the environment repositioned the source. That RESET keeps source, and that repositioning is an input of the environment, is the model's choice (log entry 12). (R30, R51, R57, R58, R178, R244) -/
def Obligations.EachSymbolIsReadOnce : Prop :=
  ∀ s t : State, step s = .next t →
    (t.source = s.source ∧ t.pos = s.pos) ∨
    (s.busy = true ∧ s.fault = none ∧ t.pos = s.pos + 1 ∧ ∃ w : SrcWord, s.source = w :: t.source) ∨
    (t.source = s.source ∧ t.pos = 0 ∧ ∃ rest : List Input, s.inputs = .command 0b10#2 :: rest) ∨
    (t.pos = s.pos ∧ ∃ (ws : List SrcWord) (rest : List Input), s.inputs = .rebind ws :: rest ∧ t.source = ws)

/-- For every row but RESET and the response rows, the number of responses plus one for an outstanding request grows by one exactly when a NEXT_UNIT is accepted (no fault, not busy), and is otherwise unchanged. (R35, R64, R170) -/
def Obligations.EveryAcceptedRequestIsAnsweredOnce : Prop :=
  ∀ (i : Instr) (s t : State), i ≠ .reset → i.format ≠ .rsp → exec i s = .next t →
    t.out.length + t.busy.toNat =
      s.out.length + s.busy.toNat + (if i = .nextUnit ∧ s.fault = none ∧ s.busy = false then 1 else 0)

/-- A step keeps cfg: MAX_NAL_BYTES, SEQ_W and ERR_W are properties of the build (log entry 1 puts them in the state). (R7) -/
def Obligations.BuildParametersNeverChange : Prop :=
  ∀ s t : State, step s = .next t → t.cfg = s.cfg

/-- From a state that meets the core invariants, a step keeps dstate, or moves it from BEFORE_FIRST_UNIT to STREAMING, ERRORED, EXHAUSTED or FAILED or from STREAMING to EXHAUSTED or FAILED, or was a RESET. (R155, R206, R21) -/
def Obligations.DecoderStatesMoveByTheTable : Prop :=
  ∀ s t : State, CoreInv s → step s = .next t →
    t.dstate = s.dstate ∨
    (s.dstate, t.dstate) ∈ [(DState.beforeFirstUnit, DState.streaming), (.beforeFirstUnit, .errored),
      (.beforeFirstUnit, .exhausted), (.beforeFirstUnit, .failed), (.streaming, .exhausted), (.streaming, .failed)] ∨
    ∃ rest : List Input, s.inputs = .command 0b10#2 :: rest

/-- From a state that meets the core invariants, a step that appends NOT_A_STREAM starts with found_first false, and a step that appends a UNIT appends one whose type is not 6. (R201, R87, R204) -/
def Obligations.NotAStreamOnlyBeforeTheFirstStartCode : Prop :=
  ∀ (s t : State), CoreInv s → step s = .next t →
    (t.out = s.out ++ [.notAStream] → s.foundFirst = false) ∧
    (∀ u : NalUnit, t.out = s.out ++ [.unit u] → u.unitType ≠ 6#5)

/-- CoreInv, SequenceInv, PayloadInv and CapacityInv hold of State.reset. (R35, R34) -/
def Obligations.ResetMeetsEveryInvariant : Prop :=
  CoreInv State.reset ∧ SequenceInv State.reset ∧ PayloadInv State.reset ∧ CapacityInv State.reset

/-- From every state that meets CoreInv, a step ends in one that meets it: the slice is empty before the first start code, STREAMING and ERRORED fit the phase, a busy instance is neither terminal nor past EOF, STREAMING means a unit was delivered, fail_code is held exactly in FAILED, and no scan event is left on the wire (the model's own, log entry 2). (R35) -/
def Obligations.StepKeepsTheCoreInvariants : Prop :=
  ∀ s t : State, CoreInv s → step s = .next t → CoreInv t

/-- From every state in which the units given carry the indices 0, 1, 2, ... up to seq, a step ends in one in which they do; skipped slices and terminal responses take no index. (R154, R35, R60) -/
def Obligations.StepKeepsSequenceNumbers : Prop :=
  ∀ s t : State, SequenceInv s → step s = .next t → SequenceInv t

/-- From every state with nothing on the wire that meets PayloadInv, a step ends in one that meets it: the slice buffer holds no two zeros followed by 0x01 and does not end in a zero, and every delivered unit has header payload[0], length len(payload), the three fields of its header, a type other than 6 and no start code inside. (R122, R87, R23, R73) -/
def Obligations.StepKeepsPayloadsWhole : Prop :=
  ∀ s t : State, PayloadInv s → s.event = none → step s = .next t → PayloadInv t

/-- From every state with nothing on the wire that meets CapacityInv, a step ends in one that meets it. (R24, R25, R120, R152) -/
def Obligations.StepKeepsCapacity : Prop :=
  ∀ s t : State, CapacityInv s → s.event = none → step s = .next t → CapacityInv t

/-- For every build with the limits R7 admits: stepping from the state with zrun saturated (at 2 in SEEK_FIRST, at MAX_NAL_BYTES + 1 in IN_UNIT) and from the exact state ends in states that differ at most in a zrun beyond saturation. (R23, R120) -/
def Obligations.SaturatedZeroCountIsUnobservable : Prop :=
  ∀ s : State, s.cfg.valid = true → mapNext State.saturated (step s.saturated) = mapNext State.saturated (step s)

/-- From an idle state with no fault and nothing on the wire, presenting NEXT_UNIT and letting the source answer ends, within fuel + 1 steps, as nextUnit does: with its response appended and its state, or with its fault and the request still outstanding, or still waiting with what it has read. The bound fuel + 1 rests on the source that answers at once where no input is listed, the model's choice (log entry 3), and that nextUnit returns its response beside a state with the old out is the model's too (log entry 19). (R181, R171, R177) -/
def Obligations.StepsRefineTheNextUnitCall : Prop :=
  ∀ (fuel : Nat) (s : State), s.busy = false → s.fault = none → s.event = none → s.inputs = [] →
    ∃ k : Nat, k ≤ fuel + 1 ∧
      Host.Core.run Sys2Proof.core k { s with inputs := [.command 0b01#2] } =
        match nextUnit fuel s with
        | .answered t r => .next { t with out := s.out ++ [r] }
        | .faulted t => .next { t with busy := true }
        | .waiting t => .next { t with busy := true }

/-- If nextUnit answers a response that is no UNIT, calling it again from the state it left answers the same response and the same state, with any fuel. From FAILED states this rests on a recorded code or on the free value applied to the same count (log entry 5), and the same state, out included, on nextUnit leaving out alone (log entry 19). That it holds from faulted and busy states too is the model's, whose nextUnit tests neither field (log entry 20). (R89, R206, R57) -/
def Obligations.TerminalResponseRepeats : Prop :=
  ∀ (fuel fuel' : Nat) (s t : State) (r : Response), nextUnit fuel s = .answered t r → r.asUnit = none →
    nextUnit fuel' t = .answered t r

/-- For k zeros followed by a byte that is not 0x00 and does not complete a start code, and any further symbols, the first call from reset gives NOT_A_STREAM, with pos k + 1, dstate ERRORED and the further symbols unread; for one or more zeros followed by EOF it gives NOT_A_STREAM too. (R201, R103, R104, R106, R58) -/
def Obligations.UnstartedStreamIsNotAStream : Prop :=
  (∀ (k : Nat) (b : Byte) (rest : List SrcWord), b ≠ 0x00#8 → ¬ (b = 0x01#8 ∧ 2 ≤ k) →
    ∃ t : State,
      nextUnit (k + 1) { State.reset with source := (zeros k ++ [b]).map byteWord ++ rest } = .answered t .notAStream ∧
      t.pos = k + 1 ∧ t.dstate = .errored ∧ t.source = rest) ∧
  (∀ (k : Nat) (rest : List SrcWord), 1 ≤ k →
    ∃ t : State,
      nextUnit (k + 1) { State.reset with source := (zeros k).map byteWord ++ eofWord :: rest } = .answered t .notAStream ∧
      t.dstate = .errored ∧ t.source = rest)

/-- For every list of units, each a start code of two or more zeros followed by a non-empty payload that holds no start code and does not end in 0x00, draining the reset state on that stream gives a UNIT for each payload whose type is not 6, with its fields and consecutive indices, and then END_OF_STREAM. It is about the build of State.reset alone, in which MAX_NAL_BYTES and SEQ_W are unbounded (the model's choice, log entry 1), and it leaves out empty slices and a last payload that ends in 0x00. (R2, R75, R89, R154, R145) -/
def Obligations.DrainDecodesAWholeStream : Prop :=
  ∀ us : List (Nat × List Byte),
    (∀ u ∈ us, 2 ≤ u.1 ∧ u.2 ≠ [] ∧ hasStartCode u.2 = false ∧ u.2.getLast? ≠ some 0x00#8) →
    let bytes := us.flatMap fun u => startCode u.1 ++ u.2
    let kept := (us.map Prod.snd).filter fun p => !isSei (p.headD 0x00#8)
    drain (bytes.length + 1) (us.length + 1) { State.reset with source := streamOf bytes } =
      kept.zipIdx.map (fun p => Response.unit (unitOf (p.1.headD 0x00#8) p.1.tail p.2)) ++ [.endOfStream]

/-- For every build: a UNIT sends tag 0b00 above its header byte, then sequence_index, length and the payload bytes in order; END_OF_STREAM sends tag 0b01 above info 0, NOT_A_STREAM tag 0b10 above info 0, SOURCE_READ_FAILURE(e) tag 0b11 above the low 8 bits of e, and nothing follows these three. That the items after the header word are plain numbers and bytes is the model's (log entry 18). (R86, R87) -/
def Obligations.ResponseItemsOnThePort : Prop :=
  ∀ cfg : Config,
    (∀ u : NalUnit, responseItems cfg (.unit u) =
      .header (0b00#2 ++ u.header) :: .sequenceIndex u.sequenceIndex :: .length u.length :: u.payload.map .payloadByte) ∧
    responseItems cfg .endOfStream = [.header (0b01#2 ++ 0#8)] ∧
    responseItems cfg .notAStream = [.header (0b10#2 ++ 0#8)] ∧
    (∀ e : SrcErr, responseItems cfg (.sourceReadFailure e) = [.header (0b11#2 ++ BitVec.ofNat 8 e)])

/-- From every state, a step leaves the history of the response port as it was or appends to it exactly the items of one response; a RESET leaves it as it was. That the history goes on across RESET through the field past is the model's (log entry 4), and so is the form of the items (log entry 18). (R56, R60, R64, R86) -/
def Obligations.PortIsOnlyExtended : Prop :=
  ∀ s t : State, step s = .next t →
    (t.responsePort = s.responsePort ∨ ∃ r : Response, t.responsePort = s.responsePort ++ responseItems s.cfg r) ∧
    ((∃ rest : List Input, s.inputs = .command 0b10#2 :: rest) → s.waitingHeader = none → t.responsePort = s.responsePort)
end

