-- ==== Sys2Proof/Laws/Decode.lean ====
section
/-! SUPPORT. The widths of source words, and a word taken apart again (spec 30_encoding.md R82). -/

namespace Sys2Proof

theorem Config.two_pow_eight_le (cfg : Config) : 256 ≤ 2 ^ cfg.dataWidth :=
  Nat.pow_le_pow_right (n := 2) (by decide) (Nat.le_max_left 8 cfg.errW)

theorem Config.errW_le (cfg : Config) : cfg.errW ≤ cfg.dataWidth := Nat.le_max_right 8 cfg.errW

theorem Config.code_lt {cfg : Config} {e : Nat} (h : e < 2 ^ cfg.errW) : e < 2 ^ cfg.dataWidth :=
  lt_of_lt_of_le h (Nat.pow_le_pow_right (by decide) cfg.errW_le)

theorem srcNat_lt {cfg : Config} {tag data : Nat} (ht : tag < 4) (hd : data < 2 ^ cfg.dataWidth) :
    srcNat cfg tag data < 2 ^ (cfg.dataWidth + 2) := by
  unfold srcNat; rw [Nat.pow_add]
  calc tag * 2 ^ cfg.dataWidth + data < (tag + 1) * 2 ^ cfg.dataWidth := by rw [Nat.add_mul]; omega
    _ ≤ 4 * 2 ^ cfg.dataWidth := Nat.mul_le_mul_right _ ht
    _ = 2 ^ cfg.dataWidth * 2 ^ 2 := by omega

/-- A source word's tag and data come back out of its number. -/
theorem SrcWord.ofNat_srcNat {cfg : Config} {tag data : Nat} (hd : data < 2 ^ cfg.dataWidth) :
    SrcWord.ofNat cfg (srcNat cfg tag data) = { tag := BitVec.ofNat 2 tag, data := data } := by
  have hp : 0 < 2 ^ cfg.dataWidth := Nat.two_pow_pos _
  simp only [SrcWord.ofNat, srcNat]
  rw [Nat.mul_comm, Nat.mul_add_div hp, Nat.div_eq_of_lt hd, Nat.mul_add_mod, Nat.mod_eq_of_lt hd, Nat.add_zero]

end Sys2Proof
end

