-- ==== Sys2Proof/Laws/State.lean ====
section
/-! SUPPORT. What every field holds after each named update of the state: one lemma per field per update, so that no proof
unfolds a record update. -/

namespace Sys2Proof.Machine

variable (s : State)

@[simp] theorem State.srcRead_dstate : s.srcRead.dstate = s.dstate := rfl
@[simp] theorem State.srcRead_foundFirst : s.srcRead.foundFirst = s.foundFirst := rfl
@[simp] theorem State.srcRead_zrun : s.srcRead.zrun = s.zrun := rfl
@[simp] theorem State.srcRead_slice : s.srcRead.slice = s.slice := rfl
@[simp] theorem State.srcRead_seq : s.srcRead.seq = s.seq := rfl
@[simp] theorem State.srcRead_eofSeen : s.srcRead.eofSeen = s.eofSeen := rfl
@[simp] theorem State.srcRead_failCode : s.srcRead.failCode = s.failCode := rfl
@[simp] theorem State.srcRead_busy : s.srcRead.busy = s.busy := rfl
@[simp] theorem State.srcRead_fault : s.srcRead.fault = s.fault := rfl
@[simp] theorem State.srcRead_pos : s.srcRead.pos = s.pos + 1 := rfl
@[simp] theorem State.srcRead_out : s.srcRead.out = s.out := rfl
@[simp] theorem State.srcRead_cfg : s.srcRead.cfg = s.cfg := rfl
@[simp] theorem State.srcRead_event : s.srcRead.event = none := rfl
@[simp] theorem State.srcRead_source : s.srcRead.source = s.source.tail := rfl
@[simp] theorem State.srcRead_inputs : s.srcRead.inputs = s.inputs := rfl
@[simp] theorem State.srcRead_past : s.srcRead.past = s.past := rfl

@[simp] theorem State.raiseFault_dstate (r : FaultReason) : (s.raiseFault r).dstate = s.dstate := rfl
@[simp] theorem State.raiseFault_foundFirst (r : FaultReason) : (s.raiseFault r).foundFirst = s.foundFirst := rfl
@[simp] theorem State.raiseFault_zrun (r : FaultReason) : (s.raiseFault r).zrun = s.zrun := rfl
@[simp] theorem State.raiseFault_slice (r : FaultReason) : (s.raiseFault r).slice = s.slice := rfl
@[simp] theorem State.raiseFault_seq (r : FaultReason) : (s.raiseFault r).seq = s.seq := rfl
@[simp] theorem State.raiseFault_eofSeen (r : FaultReason) : (s.raiseFault r).eofSeen = s.eofSeen := rfl
@[simp] theorem State.raiseFault_failCode (r : FaultReason) : (s.raiseFault r).failCode = s.failCode := rfl
@[simp] theorem State.raiseFault_busy (r : FaultReason) : (s.raiseFault r).busy = s.busy := rfl
@[simp] theorem State.raiseFault_fault (r : FaultReason) : (s.raiseFault r).fault = some r := rfl
@[simp] theorem State.raiseFault_pos (r : FaultReason) : (s.raiseFault r).pos = s.pos := rfl
@[simp] theorem State.raiseFault_out (r : FaultReason) : (s.raiseFault r).out = s.out := rfl
@[simp] theorem State.raiseFault_cfg (r : FaultReason) : (s.raiseFault r).cfg = s.cfg := rfl
@[simp] theorem State.raiseFault_event (r : FaultReason) : (s.raiseFault r).event = s.event := rfl
@[simp] theorem State.raiseFault_source (r : FaultReason) : (s.raiseFault r).source = s.source := rfl
@[simp] theorem State.raiseFault_inputs (r : FaultReason) : (s.raiseFault r).inputs = s.inputs := rfl
@[simp] theorem State.raiseFault_past (r : FaultReason) : (s.raiseFault r).past = s.past := rfl

@[simp] theorem State.emit_dstate (r : Response) : (s.emit r).dstate = s.dstate := rfl
@[simp] theorem State.emit_foundFirst (r : Response) : (s.emit r).foundFirst = s.foundFirst := rfl
@[simp] theorem State.emit_zrun (r : Response) : (s.emit r).zrun = s.zrun := rfl
@[simp] theorem State.emit_slice (r : Response) : (s.emit r).slice = s.slice := rfl
@[simp] theorem State.emit_seq (r : Response) : (s.emit r).seq = s.seq := rfl
@[simp] theorem State.emit_eofSeen (r : Response) : (s.emit r).eofSeen = s.eofSeen := rfl
@[simp] theorem State.emit_failCode (r : Response) : (s.emit r).failCode = s.failCode := rfl
@[simp] theorem State.emit_busy (r : Response) : (s.emit r).busy = s.busy := rfl
@[simp] theorem State.emit_fault (r : Response) : (s.emit r).fault = s.fault := rfl
@[simp] theorem State.emit_pos (r : Response) : (s.emit r).pos = s.pos := rfl
@[simp] theorem State.emit_out (r : Response) : (s.emit r).out = s.out ++ [r] := rfl
@[simp] theorem State.emit_cfg (r : Response) : (s.emit r).cfg = s.cfg := rfl
@[simp] theorem State.emit_event (r : Response) : (s.emit r).event = s.event := rfl
@[simp] theorem State.emit_source (r : Response) : (s.emit r).source = s.source := rfl
@[simp] theorem State.emit_inputs (r : Response) : (s.emit r).inputs = s.inputs := rfl
@[simp] theorem State.emit_past (r : Response) : (s.emit r).past = s.past := rfl

@[simp] theorem State.skipSlice_dstate : s.skipSlice.dstate = s.dstate := rfl
@[simp] theorem State.skipSlice_foundFirst : s.skipSlice.foundFirst = s.foundFirst := rfl
@[simp] theorem State.skipSlice_zrun : s.skipSlice.zrun = s.zrun := rfl
@[simp] theorem State.skipSlice_slice : s.skipSlice.slice = s.slice := rfl
@[simp] theorem State.skipSlice_seq : s.skipSlice.seq = s.seq := rfl
@[simp] theorem State.skipSlice_eofSeen : s.skipSlice.eofSeen = s.eofSeen := rfl
@[simp] theorem State.skipSlice_failCode : s.skipSlice.failCode = s.failCode := rfl
@[simp] theorem State.skipSlice_busy : s.skipSlice.busy = s.busy := rfl
@[simp] theorem State.skipSlice_fault : s.skipSlice.fault = s.fault := rfl
@[simp] theorem State.skipSlice_pos : s.skipSlice.pos = s.pos := rfl
@[simp] theorem State.skipSlice_out : s.skipSlice.out = s.out := rfl
@[simp] theorem State.skipSlice_cfg : s.skipSlice.cfg = s.cfg := rfl
@[simp] theorem State.skipSlice_event : s.skipSlice.event = none := rfl
@[simp] theorem State.skipSlice_source : s.skipSlice.source = s.source := rfl
@[simp] theorem State.skipSlice_inputs : s.skipSlice.inputs = s.inputs := rfl
@[simp] theorem State.skipSlice_past : s.skipSlice.past = s.past := rfl

@[simp] theorem scanZero_dstate : (scanZero s).dstate = s.dstate := rfl
@[simp] theorem scanZero_foundFirst : (scanZero s).foundFirst = s.foundFirst := rfl
@[simp] theorem scanZero_zrun : (scanZero s).zrun = s.zrun + 1 := rfl
@[simp] theorem scanZero_slice : (scanZero s).slice = s.slice := rfl
@[simp] theorem scanZero_seq : (scanZero s).seq = s.seq := rfl
@[simp] theorem scanZero_eofSeen : (scanZero s).eofSeen = s.eofSeen := rfl
@[simp] theorem scanZero_failCode : (scanZero s).failCode = s.failCode := rfl
@[simp] theorem scanZero_busy : (scanZero s).busy = s.busy := rfl
@[simp] theorem scanZero_fault : (scanZero s).fault = s.fault := rfl
@[simp] theorem scanZero_pos : (scanZero s).pos = s.pos := rfl
@[simp] theorem scanZero_out : (scanZero s).out = s.out := rfl
@[simp] theorem scanZero_cfg : (scanZero s).cfg = s.cfg := rfl
@[simp] theorem scanZero_event : (scanZero s).event = s.event := rfl
@[simp] theorem scanZero_source : (scanZero s).source = s.source := rfl
@[simp] theorem scanZero_inputs : (scanZero s).inputs = s.inputs := rfl
@[simp] theorem scanZero_past : (scanZero s).past = s.past := rfl

@[simp] theorem scanFirstStart_dstate : (scanFirstStart s).dstate = s.dstate := rfl
@[simp] theorem scanFirstStart_foundFirst : (scanFirstStart s).foundFirst = true := rfl
@[simp] theorem scanFirstStart_zrun : (scanFirstStart s).zrun = 0 := rfl
@[simp] theorem scanFirstStart_slice : (scanFirstStart s).slice = [] := rfl
@[simp] theorem scanFirstStart_seq : (scanFirstStart s).seq = s.seq := rfl
@[simp] theorem scanFirstStart_eofSeen : (scanFirstStart s).eofSeen = s.eofSeen := rfl
@[simp] theorem scanFirstStart_failCode : (scanFirstStart s).failCode = s.failCode := rfl
@[simp] theorem scanFirstStart_busy : (scanFirstStart s).busy = s.busy := rfl
@[simp] theorem scanFirstStart_fault : (scanFirstStart s).fault = s.fault := rfl
@[simp] theorem scanFirstStart_pos : (scanFirstStart s).pos = s.pos := rfl
@[simp] theorem scanFirstStart_out : (scanFirstStart s).out = s.out := rfl
@[simp] theorem scanFirstStart_cfg : (scanFirstStart s).cfg = s.cfg := rfl
@[simp] theorem scanFirstStart_event : (scanFirstStart s).event = s.event := rfl
@[simp] theorem scanFirstStart_source : (scanFirstStart s).source = s.source := rfl
@[simp] theorem scanFirstStart_inputs : (scanFirstStart s).inputs = s.inputs := rfl
@[simp] theorem scanFirstStart_past : (scanFirstStart s).past = s.past := rfl

@[simp] theorem scanNotAStream_dstate : (scanNotAStream s).dstate = s.dstate := rfl
@[simp] theorem scanNotAStream_foundFirst : (scanNotAStream s).foundFirst = s.foundFirst := rfl
@[simp] theorem scanNotAStream_zrun : (scanNotAStream s).zrun = s.zrun := rfl
@[simp] theorem scanNotAStream_slice : (scanNotAStream s).slice = s.slice := rfl
@[simp] theorem scanNotAStream_seq : (scanNotAStream s).seq = s.seq := rfl
@[simp] theorem scanNotAStream_eofSeen : (scanNotAStream s).eofSeen = s.eofSeen := rfl
@[simp] theorem scanNotAStream_failCode : (scanNotAStream s).failCode = s.failCode := rfl
@[simp] theorem scanNotAStream_busy : (scanNotAStream s).busy = s.busy := rfl
@[simp] theorem scanNotAStream_fault : (scanNotAStream s).fault = s.fault := rfl
@[simp] theorem scanNotAStream_pos : (scanNotAStream s).pos = s.pos := rfl
@[simp] theorem scanNotAStream_out : (scanNotAStream s).out = s.out := rfl
@[simp] theorem scanNotAStream_cfg : (scanNotAStream s).cfg = s.cfg := rfl
@[simp] theorem scanNotAStream_event : (scanNotAStream s).event = some .notAStream := rfl
@[simp] theorem scanNotAStream_source : (scanNotAStream s).source = s.source := rfl
@[simp] theorem scanNotAStream_inputs : (scanNotAStream s).inputs = s.inputs := rfl
@[simp] theorem scanNotAStream_past : (scanNotAStream s).past = s.past := rfl

@[simp] theorem scanEmpty_dstate : (scanEmpty s).dstate = s.dstate := rfl
@[simp] theorem scanEmpty_foundFirst : (scanEmpty s).foundFirst = s.foundFirst := rfl
@[simp] theorem scanEmpty_zrun : (scanEmpty s).zrun = s.zrun := rfl
@[simp] theorem scanEmpty_slice : (scanEmpty s).slice = s.slice := rfl
@[simp] theorem scanEmpty_seq : (scanEmpty s).seq = s.seq := rfl
@[simp] theorem scanEmpty_eofSeen : (scanEmpty s).eofSeen = s.eofSeen := rfl
@[simp] theorem scanEmpty_failCode : (scanEmpty s).failCode = s.failCode := rfl
@[simp] theorem scanEmpty_busy : (scanEmpty s).busy = s.busy := rfl
@[simp] theorem scanEmpty_fault : (scanEmpty s).fault = s.fault := rfl
@[simp] theorem scanEmpty_pos : (scanEmpty s).pos = s.pos := rfl
@[simp] theorem scanEmpty_out : (scanEmpty s).out = s.out := rfl
@[simp] theorem scanEmpty_cfg : (scanEmpty s).cfg = s.cfg := rfl
@[simp] theorem scanEmpty_event : (scanEmpty s).event = some .empty := rfl
@[simp] theorem scanEmpty_source : (scanEmpty s).source = s.source := rfl
@[simp] theorem scanEmpty_inputs : (scanEmpty s).inputs = s.inputs := rfl
@[simp] theorem scanEmpty_past : (scanEmpty s).past = s.past := rfl

@[simp] theorem scanFail_dstate (e : SrcErr) : (scanFail e s).dstate = s.dstate := rfl
@[simp] theorem scanFail_foundFirst (e : SrcErr) : (scanFail e s).foundFirst = s.foundFirst := rfl
@[simp] theorem scanFail_zrun (e : SrcErr) : (scanFail e s).zrun = s.zrun := rfl
@[simp] theorem scanFail_slice (e : SrcErr) : (scanFail e s).slice = s.slice := rfl
@[simp] theorem scanFail_seq (e : SrcErr) : (scanFail e s).seq = s.seq := rfl
@[simp] theorem scanFail_eofSeen (e : SrcErr) : (scanFail e s).eofSeen = s.eofSeen := rfl
@[simp] theorem scanFail_failCode (e : SrcErr) : (scanFail e s).failCode = s.failCode := rfl
@[simp] theorem scanFail_busy (e : SrcErr) : (scanFail e s).busy = s.busy := rfl
@[simp] theorem scanFail_fault (e : SrcErr) : (scanFail e s).fault = s.fault := rfl
@[simp] theorem scanFail_pos (e : SrcErr) : (scanFail e s).pos = s.pos := rfl
@[simp] theorem scanFail_out (e : SrcErr) : (scanFail e s).out = s.out := rfl
@[simp] theorem scanFail_cfg (e : SrcErr) : (scanFail e s).cfg = s.cfg := rfl
@[simp] theorem scanFail_event (e : SrcErr) : (scanFail e s).event = some (.fail e) := rfl
@[simp] theorem scanFail_source (e : SrcErr) : (scanFail e s).source = s.source := rfl
@[simp] theorem scanFail_inputs (e : SrcErr) : (scanFail e s).inputs = s.inputs := rfl
@[simp] theorem scanFail_past (e : SrcErr) : (scanFail e s).past = s.past := rfl

@[simp] theorem scanDelimiter_dstate : (scanDelimiter s).dstate = s.dstate := rfl
@[simp] theorem scanDelimiter_foundFirst : (scanDelimiter s).foundFirst = s.foundFirst := rfl
@[simp] theorem scanDelimiter_zrun : (scanDelimiter s).zrun = 0 := rfl
@[simp] theorem scanDelimiter_slice : (scanDelimiter s).slice = [] := rfl
@[simp] theorem scanDelimiter_seq : (scanDelimiter s).seq = s.seq := rfl
@[simp] theorem scanDelimiter_eofSeen : (scanDelimiter s).eofSeen = s.eofSeen := rfl
@[simp] theorem scanDelimiter_failCode : (scanDelimiter s).failCode = s.failCode := rfl
@[simp] theorem scanDelimiter_busy : (scanDelimiter s).busy = s.busy := rfl
@[simp] theorem scanDelimiter_fault : (scanDelimiter s).fault = s.fault := rfl
@[simp] theorem scanDelimiter_pos : (scanDelimiter s).pos = s.pos := rfl
@[simp] theorem scanDelimiter_out : (scanDelimiter s).out = s.out := rfl
@[simp] theorem scanDelimiter_cfg : (scanDelimiter s).cfg = s.cfg := rfl
@[simp] theorem scanDelimiter_event : (scanDelimiter s).event = some (.slice s.slice) := rfl
@[simp] theorem scanDelimiter_source : (scanDelimiter s).source = s.source := rfl
@[simp] theorem scanDelimiter_inputs : (scanDelimiter s).inputs = s.inputs := rfl
@[simp] theorem scanDelimiter_past : (scanDelimiter s).past = s.past := rfl

@[simp] theorem State.emitUnit_eq (h : Byte) :
    s.emitUnit h = s.emit (.unit (unitOf h (eventSlice s.event).tail s.seq)) := rfl
@[simp] theorem State.emitEndOfStream_eq : s.emitEndOfStream = s.emit .endOfStream := rfl
@[simp] theorem State.emitNotAStream_eq : s.emitNotAStream = s.emit .notAStream := rfl
@[simp] theorem State.emitSourceReadFailure_eq (info : BitVec 8) :
    s.emitSourceReadFailure info = s.emit (.sourceReadFailure (withFailInfo s.failValue info)) := rfl

end Sys2Proof.Machine
end

