-- ==== Sys2Proof/Laws/Ops.lean ====
section
/-! SUPPORT. What each shared operation can do, said once: the conditions, Commit, Deliver, terminal entry, header fields, the
Decoder's reaction and the busy step. -/

namespace Sys2Proof.Machine

/-! ## Conditions -/

@[simp] theorem State.live_iff (s : State) : s.live = true ↔ s.fault = none := by
  simp [State.live]

@[simp] theorem State.live_eq_false (s : State) : s.live = false ↔ s.fault ≠ none := by
  simp [State.live, Option.isSome_iff_ne_none]

theorem State.reading_iff (s : State) : s.reading = true ↔ s.busy = true ∧ s.fault = none := by
  simp [State.reading]

theorem State.reading_eq_false (s : State) : s.reading = false ↔ s.busy = false ∨ s.fault ≠ none := by
  cases hb : s.busy <;> simp [State.reading, hb]

theorem State.fits_iff (s : State) (n : Nat) :
    s.fits n = true ↔ ∀ cap ∈ s.cfg.maxNalBytes, s.slice.length + n ≤ cap := by
  unfold State.fits; cases s.cfg.maxNalBytes <;> simp

theorem State.seqFull_eq_false (s : State) : s.seqFull = false ↔ ∀ w ∈ s.cfg.seqW, s.seq < 2 ^ w := by
  unfold State.seqFull; cases s.cfg.seqW <;> simp

/-! ## Failure codes -/

theorem withFailInfo_failInfo (e : SrcErr) : withFailInfo e (failInfo e) = e := by
  simp only [withFailInfo, failInfo, BitVec.toNat_ofNat]
  exact Nat.div_add_mod' e (2 ^ 8)

/-! ## Header fields -/

theorem headerByte_fields : ∀ h : Byte, headerByte (headerF h) (headerNri h) (headerType h) = h := by decide

theorem headerF_headerByte : ∀ (f : Bool) (nri : BitVec 2) (t : BitVec 5), headerF (headerByte f nri t) = f := by decide

theorem headerNri_headerByte : ∀ (f : Bool) (nri : BitVec 2) (t : BitVec 5), headerNri (headerByte f nri t) = nri := by decide

theorem headerType_headerByte : ∀ (f : Bool) (nri : BitVec 2) (t : BitVec 5), headerType (headerByte f nri t) = t := by decide

/-! ## The shared operations -/

/-- Commit appends and clears the zero count, or faults and does nothing else. -/
theorem State.commit_cases (bytes : List Byte) (s : State) :
    (s.fits bytes.length = true ∧ s.commit bytes = { s with slice := s.slice ++ bytes, zrun := 0 }) ∨
    (s.fits bytes.length = false ∧ s.commit bytes = s.raiseFault .capacityExceeded) := by
  unfold State.commit; cases h : s.fits bytes.length <;> simp

/-- Deliver emits the unit and completes the request, or faults and does nothing else. -/
theorem State.deliver_cases (h : Byte) (last : Bool) (s : State) :
    (s.seqFull = false ∧ s.deliver h last =
      { s with
        out := s.out ++ [.unit (unitOf h (eventSlice s.event).tail s.seq)], seq := s.seq + 1, dstate := .streaming,
        eofSeen := s.eofSeen || last, busy := false, event := none }) ∨
    (s.seqFull = true ∧ s.deliver h last = s.raiseFault .seqOverflow) := by
  unfold State.deliver; cases h : s.seqFull <;> simp [State.emit]

theorem State.enterTerminal_endOfStream (s : State) : s.enterTerminal .endOfStream =
    { s with out := s.out ++ [.endOfStream], dstate := .exhausted, eofSeen := true, busy := false, event := none } := rfl

theorem State.enterTerminal_notAStream (s : State) : s.enterTerminal .notAStream =
    { s with out := s.out ++ [.notAStream], dstate := .errored, busy := false, event := none } := rfl

theorem State.enterTerminal_sourceReadFailure (e : SrcErr) (s : State) : s.enterTerminal (.sourceReadFailure e) =
    { s with
      out := s.out ++ [.sourceReadFailure e], failCode := some e, dstate := .failed, busy := false, event := none } := by
  simp [State.enterTerminal, State.failValue, withFailInfo_failInfo, State.emit]

@[simp] theorem State.enterTerminal_fault (sig : Signal) (s : State) : (s.enterTerminal sig).fault = s.fault := by
  cases sig <;> rfl

/-! ## The response port -/

@[simp] theorem responseTrailer_length (u : NalUnit) : (responseTrailer (.unit u)).length = u.payload.length + 2 := by
  simp [responseTrailer]

/-- The port's history is decided by the responses and the build alone. -/
theorem State.responsePort_congr {s t : State} (hp : t.past = s.past) (ho : t.out = s.out) (hc : t.cfg = s.cfg) :
    t.responsePort = s.responsePort := by
  simp [State.responsePort, State.handedOver, hp, ho, hc]

/-- A state with one response more has sent that response's items more. -/
theorem State.responsePort_append {s t : State} {r : Response} (hp : t.past = s.past) (ho : t.out = s.out ++ [r])
    (hc : t.cfg = s.cfg) : t.responsePort = s.responsePort ++ responseItems s.cfg r := by
  simp [State.responsePort, State.handedOver, hp, ho, hc]

@[simp] theorem State.responsePort_emit (s : State) (r : Response) :
    (s.emit r).responsePort = s.responsePort ++ responseItems s.cfg r := State.responsePort_append rfl rfl rfl

/-- A RESET sends nothing and takes back nothing (R178). -/
@[simp] theorem State.responsePort_construct (s : State) : s.construct.responsePort = s.responsePort := by
  simp [State.responsePort, State.handedOver, State.construct, State.reset]

/-! ## The Decoder -/

theorem bitVec5_cases : ∀ t : BitVec 5, t = 0 ∨ t = 1 ∨ t = 2 ∨ t = 3 ∨ t = 4 ∨ t = 5 ∨ t = 6 ∨ t = 7 ∨ t = 8 ∨ t = 9 ∨
    t = 10 ∨ t = 11 ∨ t = 12 ∨ t = 13 ∨ t = 14 ∨ t = 15 ∨ t = 16 ∨ t = 17 ∨ t = 18 ∨ t = 19 ∨ t = 20 ∨ t = 21 ∨ t = 22 ∨
    t = 23 ∨ t = 24 ∨ t = 25 ∨ t = 26 ∨ t = 27 ∨ t = 28 ∨ t = 29 ∨ t = 30 ∨ t = 31 := by decide

/-- The five bits the header's row is selected by are those of its type. -/
theorem header_bits (h : Byte) (i : Nat) (hi : i < 5) : h.getLsbD i = (headerType h).getLsbD i := by
  simp [headerType, hi]

/-- A header byte's row is the SEI row or the delivery row of its type. -/
theorem execHeader_eq (h : Byte) (s : State) : execHeader h s =
    .next (if isSei h then filterRow s else deliverRow (headerType h) (headerF h) (headerNri h) s) := by
  unfold execHeader isSei
  rw [header_bits h 4 (by decide), header_bits h 3 (by decide), header_bits h 2 (by decide), header_bits h 1 (by decide),
    header_bits h 0 (by decide)]
  rcases bitVec5_cases (headerType h) with e | e | e | e | e | e | e | e | e | e | e | e | e | e | e | e | e | e | e | e | e |
    e | e | e | e | e | e | e | e | e | e | e <;> rw [e] <;> rfl

/-- The row a header byte decodes to is the row it runs. -/
theorem exec_decodeHeader (h : Byte) (s : State) : exec (decodeHeader h) s = execHeader h s := by
  unfold decodeHeader execHeader
  generalize h.getLsbD 4 = b4, h.getLsbD 3 = b3, h.getLsbD 2 = b2, h.getLsbD 1 = b1, h.getLsbD 0 = b0
  cases b4 <;> cases b3 <;> cases b2 <;> cases b1 <;> cases b0 <;> rfl

theorem isSei_iff (h : Byte) : isSei h = true ↔ headerType h = 6#5 := by
  simp [isSei, seiType]

theorem isSei_eq_false (h : Byte) : isSei h = false ↔ headerType h ≠ 6#5 := by
  simp [isSei, seiType]

/-- Outside a request, or with no non-empty slice on the wire, a header row has no effect. -/
theorem deliverRow_of_not_reading {s : State} (h : s.reading = false) (t : BitVec 5) (f : Bool) (nri : BitVec 2) :
    deliverRow t f nri s = s := by
  simp [deliverRow, h]

theorem filterRow_of_not_reading {s : State} (h : s.reading = false) : filterRow s = s := by
  simp [filterRow, h]

theorem deliverRow_slice {s : State} {g : Byte} {p : List Byte} (hr : s.reading = true) (he : s.event = some (.slice (g :: p)))
    (t : BitVec 5) (f : Bool) (nri : BitVec 2) : deliverRow t f nri s = s.deliver (headerByte f nri t) false := by
  simp [deliverRow, hr, he]

theorem deliverRow_last {s : State} {g : Byte} {p : List Byte} (hr : s.reading = true) (he : s.event = some (.last (g :: p)))
    (t : BitVec 5) (f : Bool) (nri : BitVec 2) : deliverRow t f nri s = s.deliver (headerByte f nri t) true := by
  simp [deliverRow, hr, he]

theorem filterRow_slice {s : State} {g : Byte} {p : List Byte} (hr : s.reading = true) (he : s.event = some (.slice (g :: p))) :
    filterRow s = s.skipSlice := by
  simp [filterRow, hr, he]

theorem filterRow_last {s : State} {g : Byte} {p : List Byte} (hr : s.reading = true) (he : s.event = some (.last (g :: p))) :
    filterRow s = s.enterTerminal .endOfStream := by
  simp [filterRow, hr, he]

/-- A header row run for its own slice: the slice is skipped (SEI) or delivered (R145, R146). -/
theorem react_slice {s : State} {h : Byte} {p : List Byte} (hr : s.reading = true) (he : s.event = some (.slice (h :: p))) :
    react s = .next (if isSei h then s.skipSlice else s.deliver h false) := by
  simp only [react, he, execHeader_eq, filterRow_slice hr he, deliverRow_slice hr he, headerByte_fields]

/-- A header row run for the last slice: the stream ends (SEI) or the last unit is delivered (R148, R149). -/
theorem react_last {s : State} {h : Byte} {p : List Byte} (hr : s.reading = true) (he : s.event = some (.last (h :: p))) :
    react s = .next (if isSei h then s.enterTerminal .endOfStream else s.deliver h true) := by
  simp only [react, he, execHeader_eq, filterRow_last hr he, deliverRow_last hr he, headerByte_fields]

/-- The Decoder always answers a next state. -/
theorem react_next (s : State) : ∃ t, react s = .next t := by
  unfold react
  split <;> first | exact ⟨_, rfl⟩ | exact ⟨_, execHeader_eq _ _⟩

/-! ## The busy step -/

theorem busyStep_disabled {selected : State → Bool} {rule : State → State} {s : State}
    (h : (s.reading && selected s) = false) : busyStep selected rule s = .next s := by
  simp [busyStep, h]

/-- An enabled busy step whose rule faults writes only the read and the fault (R177). -/
theorem busyStep_ruleFault {selected : State → Bool} {rule : State → State} {s : State} {r : FaultReason}
    (h : (s.reading && selected s) = true) (hf : (rule s.srcRead).fault = some r) :
    busyStep selected rule s = .next (s.srcRead.raiseFault r) := by
  simp [busyStep, h, hf]

/-- An enabled busy step whose Decoder faults writes only the read and the fault (R177). -/
theorem busyStep_reactFault {selected : State → Bool} {rule : State → State} {s t : State} {r : FaultReason}
    (h : (s.reading && selected s) = true) (hf : (rule s.srcRead).fault = none) (hr : react (rule s.srcRead) = .next t)
    (ht : t.fault = some r) : busyStep selected rule s = .next (s.srcRead.raiseFault r) := by
  simp [busyStep, h, hf, hr, ht]

/-- An enabled busy step without a fault ends where the Decoder ends. -/
theorem busyStep_done {selected : State → Bool} {rule : State → State} {s t : State}
    (h : (s.reading && selected s) = true) (hf : (rule s.srcRead).fault = none) (hr : react (rule s.srcRead) = .next t)
    (ht : t.fault = none) : busyStep selected rule s = .next t := by
  simp [busyStep, h, hf, hr, ht]

theorem State.srcRead_reading (s : State) : s.srcRead.reading = s.reading := rfl

@[simp] theorem State.srcRead_fits (s : State) (n : Nat) : s.srcRead.fits n = s.fits n := rfl

theorem State.deliver_of_room {s : State} (h : s.seqFull = false) (b : Byte) (last : Bool) : s.deliver b last =
    { s with
      out := s.out ++ [.unit (unitOf b (eventSlice s.event).tail s.seq)], seq := s.seq + 1, dstate := .streaming,
      eofSeen := s.eofSeen || last, busy := false, event := none } := by
  simp [State.deliver, h, State.emit]

theorem State.deliver_of_full {s : State} (h : s.seqFull = true) (b : Byte) (last : Bool) :
    s.deliver b last = s.raiseFault .seqOverflow := by
  simp [State.deliver, h]

/-- End of input in a unit, the pending zeros fitting: they join the last slice (R114). -/
theorem scanLast_of_fits {s : State} (hf : s.fault = none) (h : s.fits s.zrun = true) :
    scanLast s = { s with event := some (.last (s.slice ++ zeros s.zrun)), slice := [], zrun := 0 } := by
  simp [scanLast, State.commit, zeros, h, hf]

theorem scanLast_of_full {s : State} (h : s.fits s.zrun = false) : scanLast s = s.raiseFault .capacityExceeded := by
  simp [scanLast, State.commit, zeros, h]

theorem scanPayload_of_fits {s : State} (h : s.fits (s.zrun + 1) = true) (b : Byte) :
    scanPayload b s = { s with slice := s.slice ++ (zeros s.zrun ++ [b]), zrun := 0 } := by
  simp [scanPayload, State.commit, zeros, h]

theorem scanPayload_of_full {s : State} (h : s.fits (s.zrun + 1) = false) (b : Byte) :
    scanPayload b s = s.raiseFault .capacityExceeded := by
  simp [scanPayload, State.commit, zeros, h]

/-- Everything a busy step can do. -/
theorem busyStep_cases (selected : State → Bool) (rule : State → State) (s : State) :
    ((s.reading && selected s) = false ∧ busyStep selected rule s = .next s) ∨
    ((s.reading && selected s) = true ∧ ∃ r, busyStep selected rule s = .next (s.srcRead.raiseFault r)) ∨
    ((s.reading && selected s) = true ∧ (rule s.srcRead).fault = none ∧
      ∃ t, react (rule s.srcRead) = .next t ∧ t.fault = none ∧ busyStep selected rule s = .next t) := by
  cases h : s.reading && selected s
  · exact .inl ⟨rfl, busyStep_disabled h⟩
  · right
    cases hf : (rule s.srcRead).fault with
    | some r => exact .inl ⟨rfl, r, busyStep_ruleFault h hf⟩
    | none =>
      obtain ⟨t, ht⟩ := react_next (rule s.srcRead)
      cases hft : t.fault with
      | some r => exact .inl ⟨rfl, r, busyStep_reactFault h hf ht hft⟩
      | none => exact .inr ⟨rfl, rfl, t, ht, hft, busyStep_done h hf ht hft⟩

end Sys2Proof.Machine
end

