-- ==== Sys2Proof/Laws/Step.lean ====
section
/-! SUPPORT. What a step runs: every case of fetching, said once (spec 60_exceptions.md R208). -/

namespace Sys2Proof.Machine

/-- The source's turn: a symbol's row inside a request, else NOP. -/
theorem fetchSymbol_cases (s : State) :
    (∃ w rest, s.reading = true ∧ s.source = w :: rest ∧
      fetchSymbol s = (decodeSource s.cfg s.foundFirst s.zrun w, s)) ∨
    ((s.reading = false ∨ s.source = []) ∧ fetchSymbol s = (.nop, s)) := by
  unfold fetchSymbol
  cases hr : s.reading
  · simp
  · cases hs : s.source <;> simp

/-- Everything a step can fetch: a header byte on the wire, a command, a repositioning of the source, the source's turn. -/
theorem fetch_cases (s : State) :
    (∃ h, s.waitingHeader = some h ∧ fetch s = (decodeHeader h, s)) ∨
    (s.waitingHeader = none ∧
      ((∃ w rest, s.inputs = .command w :: rest ∧ fetch s = (decodeCommand w, { s with inputs := rest })) ∨
       (∃ ws rest, s.inputs = .rebind ws :: rest ∧ fetch s = (.nop, { s with inputs := rest, source := ws })) ∨
       (∃ rest, s.inputs = .answer :: rest ∧ fetch s = fetchSymbol { s with inputs := rest }) ∨
       (s.inputs = [] ∧ fetch s = fetchSymbol s))) := by
  unfold fetch
  cases hw : s.waitingHeader with
  | some h => exact .inl ⟨h, rfl, rfl⟩
  | none =>
    refine .inr ⟨rfl, ?_⟩
    simp only [fetchPort]
    cases hi : s.inputs with
    | nil => simp
    | cons i rest => cases i <;> simp

/-- With nothing on the wire, the Decoder never comes first. -/
theorem State.waitingHeader_of_event_none {s : State} (h : s.event = none) : s.waitingHeader = none := by
  simp [State.waitingHeader, h, eventHeader, eventSlice]

end Sys2Proof.Machine
end

