-- ==== Sys2Proof/Laws/Exec.lean ====
section
/-! SUPPORT. Inversion: everything each kind of row can do to the state, said once. A proof over all instructions or steps takes
these cases instead of unfolding the meanings. -/

namespace Sys2Proof.Machine

/-- Every next state of an enabled busy step on `s` (42_interface_ops.md R177 over 40_scanner.md and 41_nal_decoder.md). -/
inductive ReadChange (s : State) : State → Prop
  /-- A fault inside the step: only the read and the fault are written. -/
  | fault (r : FaultReason) : ReadChange s (s.srcRead.raiseFault r)
  /-- R101, R110. -/
  | zero : ReadChange s (scanZero s.srcRead)
  /-- R102. -/
  | firstStart : s.foundFirst = false → 2 ≤ s.zrun → ReadChange s (scanFirstStart s.srcRead)
  /-- R103, R104, R106 with R151. -/
  | notAStream : s.foundFirst = false → ReadChange s (s.srcRead.enterTerminal .notAStream)
  /-- R105 with R150. -/
  | empty : s.foundFirst = false → s.zrun = 0 → ReadChange s (s.srcRead.enterTerminal .endOfStream)
  /-- R107, R115 with R153. -/
  | fail (e : SrcErr) : ReadChange s (s.srcRead.enterTerminal (.sourceReadFailure e))
  /-- R112, R113: a non-zero byte joins the slice, 0x01 only after fewer than two zeros. -/
  | payload (b : Byte) : s.foundFirst = true → b ≠ 0x00#8 → (b = 0x01#8 → s.zrun < 2) → s.fits (s.zrun + 1) = true →
      ReadChange s { s.srcRead with slice := s.slice ++ (zeros s.zrun ++ [b]), zrun := 0 }
  /-- R111 with R144 or R145. -/
  | skip : s.foundFirst = true → 2 ≤ s.zrun → ReadChange s { s.srcRead with slice := [], zrun := 0 }
  /-- R111 with R146 and R152. -/
  | deliver (h : Byte) (p : List Byte) : s.foundFirst = true → 2 ≤ s.zrun → s.slice = h :: p → isSei h = false →
      s.seqFull = false →
      ReadChange s { s.srcRead with
        slice := [], zrun := 0, out := s.out ++ [.unit (unitOf h p s.seq)], seq := s.seq + 1, dstate := .streaming,
        busy := false }
  /-- R114 with R147 or R148. -/
  | lastEnds : s.foundFirst = true → s.fits s.zrun = true →
      ReadChange s (State.enterTerminal .endOfStream { s.srcRead with slice := [], zrun := 0 })
  /-- R114 with R149 and R152. -/
  | lastDelivered (h : Byte) (p : List Byte) : s.foundFirst = true → s.fits s.zrun = true → s.slice ++ zeros s.zrun = h :: p →
      isSei h = false → s.seqFull = false →
      ReadChange s { s.srcRead with
        slice := [], zrun := 0, out := s.out ++ [.unit (unitOf h p s.seq)], seq := s.seq + 1, dstate := .streaming,
        eofSeen := true, busy := false }

section

variable {selected : State → Bool} {s t : State}

/-- A busy step answers the same state, or it is enabled and its rule's outcome decides. -/
theorem busyStep_change {rule : State → State} (hs : busyStep selected rule s = .next t)
    (h : s.reading = true → selected s = true → busyStep selected rule s = .next t → ReadChange s t) :
    t = s ∨ (s.reading = true ∧ ReadChange s t) := by
  cases hen : s.reading && selected s
  · rw [busyStep_disabled hen] at hs; cases hs; exact .inl rfl
  · rw [Bool.and_eq_true] at hen; exact .inr ⟨hen.1, h hen.1 hen.2 hs⟩

theorem enabled (hr : s.reading = true) (hsel : selected s = true) : (s.reading && selected s) = true := by
  simp [hr, hsel]

theorem State.fault_of_reading (hr : s.reading = true) : s.fault = none := ((State.reading_iff s).1 hr).2

/-- The busy step of a rule that reports nothing: the rule's state. -/
theorem busyStep_quiet {rule : State → State} (hr : s.reading = true) (hsel : selected s = true)
    (hf : (rule s.srcRead).fault = none) (he : (rule s.srcRead).event = none) :
    busyStep selected rule s = .next (rule s.srcRead) :=
  busyStep_done (enabled hr hsel) hf (by simp [react, he]) hf

theorem busyStep_notAStream (hr : s.reading = true) (hsel : selected s = true) :
    busyStep selected scanNotAStream s = .next (s.srcRead.enterTerminal .notAStream) :=
  have hf : s.fault = none := State.fault_of_reading hr
  busyStep_done (enabled hr hsel) hf rfl (by simpa using hf)

theorem busyStep_empty (hr : s.reading = true) (hsel : selected s = true) :
    busyStep selected scanEmpty s = .next (s.srcRead.enterTerminal .endOfStream) :=
  have hf : s.fault = none := State.fault_of_reading hr
  busyStep_done (enabled hr hsel) hf rfl (by simpa using hf)

theorem busyStep_fail (e : SrcErr) (hr : s.reading = true) (hsel : selected s = true) :
    busyStep selected (scanFail e) s = .next (s.srcRead.enterTerminal (.sourceReadFailure e)) :=
  have hf : s.fault = none := State.fault_of_reading hr
  busyStep_done (enabled hr hsel) hf rfl (by simpa using hf)

theorem busyStep_payload (b : Byte) (hr : s.reading = true) (hsel : selected s = true) :
    (s.fits (s.zrun + 1) = true ∧ busyStep selected (scanPayload b) s =
      .next { s.srcRead with slice := s.slice ++ (zeros s.zrun ++ [b]), zrun := 0 }) ∨
    (s.fits (s.zrun + 1) = false ∧ busyStep selected (scanPayload b) s =
      .next (s.srcRead.raiseFault .capacityExceeded)) := by
  cases h : s.fits (s.zrun + 1)
  · refine .inr ⟨rfl, busyStep_ruleFault (enabled hr hsel) ?_⟩
    rw [scanPayload_of_full (s := s.srcRead) h]; rfl
  · have heq := scanPayload_of_fits (s := s.srcRead) h b
    refine .inl ⟨rfl, (busyStep_quiet hr hsel ?_ ?_).trans (by rw [heq]; rfl)⟩ <;> rw [heq]
    · exact State.fault_of_reading hr
    · rfl

/-- A delimiter's busy step, by the slice it ends (R111, R144 to R146). -/
theorem busyStep_delimiter (hr : s.reading = true) (hsel : selected s = true) :
    ((s.slice = [] ∨ ∃ h p, s.slice = h :: p ∧ isSei h = true) ∧ busyStep selected scanDelimiter s =
      .next { s.srcRead with slice := [], zrun := 0 }) ∨
    (∃ h p, s.slice = h :: p ∧ isSei h = false ∧
      ((s.seqFull = false ∧ busyStep selected scanDelimiter s =
        .next { s.srcRead with
          slice := [], zrun := 0, out := s.out ++ [.unit (unitOf h p s.seq)], seq := s.seq + 1, dstate := .streaming,
          busy := false }) ∨
       (s.seqFull = true ∧ busyStep selected scanDelimiter s = .next (s.srcRead.raiseFault .seqOverflow)))) := by
  have hf := State.fault_of_reading hr
  have hen := enabled hr hsel
  cases hs : s.slice with
  | nil => exact .inl ⟨.inl rfl, busyStep_done (t := (scanDelimiter s.srcRead).skipSlice) hen hf (by simp [react, hs]) hf⟩
  | cons h p =>
    have hre := react_slice (s := scanDelimiter s.srcRead) (h := h) (p := p) hr (by simp [hs])
    cases hsei : isSei h
    · rw [hsei] at hre
      refine .inr ⟨h, p, rfl, hsei, ?_⟩
      cases hq : s.seqFull
      · have hd := State.deliver_of_room (s := scanDelimiter s.srcRead) hq h false
        refine .inl ⟨rfl, (busyStep_done hen hf hre (by simp only [Bool.false_eq_true, if_false]; rw [hd]; exact hf)).trans ?_⟩
        simp only [Bool.false_eq_true, if_false]; rw [hd]; simp [hs, eventSlice]
      · have hd := State.deliver_of_full (s := scanDelimiter s.srcRead) hq h false
        exact .inr ⟨rfl, busyStep_reactFault hen hf hre (by simp only [Bool.false_eq_true, if_false]; rw [hd]; rfl)⟩
    · rw [hsei] at hre
      exact .inl ⟨.inr ⟨h, p, rfl, hsei⟩, busyStep_done hen hf hre hf⟩

/-- End of input in a unit, by the last slice (R114, R147 to R149). -/
theorem busyStep_last (hr : s.reading = true) (hsel : selected s = true) :
    (s.fits s.zrun = false ∧ busyStep selected scanLast s = .next (s.srcRead.raiseFault .capacityExceeded)) ∨
    (s.fits s.zrun = true ∧
      (((s.slice ++ zeros s.zrun = [] ∨ ∃ h p, s.slice ++ zeros s.zrun = h :: p ∧ isSei h = true) ∧
        busyStep selected scanLast s =
          .next (State.enterTerminal .endOfStream { s.srcRead with slice := [], zrun := 0 })) ∨
       (∃ h p, s.slice ++ zeros s.zrun = h :: p ∧ isSei h = false ∧
        ((s.seqFull = false ∧ busyStep selected scanLast s =
          .next { s.srcRead with
            slice := [], zrun := 0, out := s.out ++ [.unit (unitOf h p s.seq)], seq := s.seq + 1, dstate := .streaming,
            eofSeen := true, busy := false }) ∨
         (s.seqFull = true ∧ busyStep selected scanLast s = .next (s.srcRead.raiseFault .seqOverflow)))))) := by
  have hf := State.fault_of_reading hr
  have hen := enabled hr hsel
  cases hfit : s.fits s.zrun
  · refine .inl ⟨rfl, busyStep_ruleFault hen ?_⟩
    rw [scanLast_of_full (s := s.srcRead) hfit]; rfl
  · refine .inr ⟨rfl, ?_⟩
    have hl := scanLast_of_fits (s := s.srcRead) hf hfit
    have hlf : (scanLast s.srcRead).fault = none := by rw [hl]; exact hf
    cases hs : s.slice ++ zeros s.zrun with
    | nil =>
      refine .inl ⟨.inl rfl, busyStep_done hen hlf (by rw [hl]; simp [react, hs]; rfl) hf⟩
    | cons h p =>
      have hre := react_last (s := scanLast s.srcRead) (h := h) (p := p) (by rw [hl]; exact hr) (by rw [hl]; simp [hs])
      cases hsei : isSei h
      · rw [hsei] at hre
        refine .inr ⟨h, p, rfl, hsei, ?_⟩
        cases hq : s.seqFull
        · have hd := State.deliver_of_room (s := scanLast s.srcRead) (by rw [hl]; exact hq) h true
          refine .inl ⟨rfl,
            (busyStep_done hen hlf hre (by simp only [Bool.false_eq_true, if_false]; rw [hd]; exact hlf)).trans ?_⟩
          simp only [Bool.false_eq_true, if_false]; rw [hd, hl]; simp [hs, eventSlice]
        · have hd := State.deliver_of_full (s := scanLast s.srcRead) (by rw [hl]; exact hq) h true
          exact .inr ⟨rfl, busyStep_reactFault hen hlf hre (by simp only [Bool.false_eq_true, if_false]; rw [hd]; rfl)⟩
      · rw [hsei] at hre
        refine .inl ⟨.inr ⟨h, p, rfl, hsei⟩, (busyStep_done hen hlf hre ?_).trans ?_⟩
        · simpa using hlf
        · simp only [if_true]; rw [hl]; rfl

theorem zero_change {ph : State → Bool} (hs : busyStep ph scanZero s = .next t) : t = s ∨ (s.reading = true ∧ ReadChange s t) :=
  busyStep_change hs fun hr hsel hs => by
    rw [busyStep_quiet hr hsel (State.fault_of_reading hr) rfl] at hs; cases hs; exact .zero

theorem notAStream_change (hp : selected s = true → s.foundFirst = false) (hs : busyStep selected scanNotAStream s = .next t) :
    t = s ∨ (s.reading = true ∧ ReadChange s t) :=
  busyStep_change hs fun hr hsel hs => by
    rw [busyStep_notAStream hr hsel] at hs; cases hs; exact .notAStream (hp hsel)

theorem fail_change (e : SrcErr) (hs : busyStep selected (scanFail e) s = .next t) :
    t = s ∨ (s.reading = true ∧ ReadChange s t) :=
  busyStep_change hs fun hr hsel hs => by
    rw [busyStep_fail e hr hsel] at hs; cases hs; exact .fail e

theorem payload_change (b : Byte) (hb : b ≠ 0x00#8)
    (hp : selected s = true → s.foundFirst = true ∧ (b = 0x01#8 → s.zrun < 2))
    (hs : busyStep selected (scanPayload b) s = .next t) : t = s ∨ (s.reading = true ∧ ReadChange s t) :=
  busyStep_change hs fun hr hsel hs => by
    rcases busyStep_payload b hr hsel with ⟨hfit, h⟩ | ⟨_, h⟩ <;> rw [h] at hs <;> cases hs
    · exact .payload b (hp hsel).1 hb (hp hsel).2 hfit
    · exact .fault _

end

theorem rangeByte_ne {n base : Nat} {b : BitVec n} (h : base + 2 ^ n ≤ 256) (hb : 2 ≤ base) :
    rangeByte base b ≠ 0x00#8 ∧ rangeByte base b ≠ 0x01#8 := by
  have hlt := b.isLt
  have hv : (rangeByte base b).toNat = base + b.toNat := by
    simp only [rangeByte, BitVec.toNat_ofNat]; omega
  constructor <;> intro hc <;> rw [hc] at hv <;> simp at hv <;> omega

/-- Every SRC row leaves the state as it is, or is an enabled busy step (R177). -/
theorem exec_src_change {i : Instr} {s t : State} (hi : i.format = .src) (hs : exec i s = .next t) :
    t = s ∨ (s.reading = true ∧ ReadChange s t) := by
  have other {n base : Nat} {b : BitVec n} (h : base + 2 ^ n ≤ 256) (h2 : 2 ≤ base)
      (hs : busyStep (fun s => s.inUnit) (scanPayload (rangeByte base b)) s = .next t) :
      t = s ∨ (s.reading = true ∧ ReadChange s t) :=
    payload_change _ (rangeByte_ne h h2).1 (fun hsel => ⟨hsel, fun hc => absurd hc (rangeByte_ne h h2).2⟩) hs
  have seek (hs : busyStep (fun s => s.seekFirst) scanNotAStream s = .next t) :
      t = s ∨ (s.reading = true ∧ ReadChange s t) :=
    notAStream_change (fun h => by simpa [State.seekFirst] using h) hs
  cases i
  case byteZeroSeekFirst => exact zero_change hs
  case byteZeroInUnit => exact zero_change hs
  case byteOneSeekFirstStart =>
    replace hs : busyStep (fun s => s.seekFirst && s.zerosReady) scanFirstStart s = .next t := hs
    refine busyStep_change hs fun hr hsel hs => ?_
    rw [busyStep_quiet hr hsel (State.fault_of_reading hr) rfl] at hs; cases hs
    simp only [State.seekFirst, State.zerosReady, Bool.and_eq_true, Bool.not_eq_true', decide_eq_true_eq] at hsel
    exact .firstStart hsel.1 hsel.2
  case byteOneSeekFirstNas =>
    replace hs : busyStep (fun s => s.seekFirst && !s.zerosReady) scanNotAStream s = .next t := hs
    refine notAStream_change (fun hsel => ?_) hs
    simp only [State.seekFirst, Bool.and_eq_true, Bool.not_eq_true'] at hsel; exact hsel.1
  case byteOneInUnitDelim =>
    replace hs : busyStep (fun s => s.inUnit && s.zerosReady) scanDelimiter s = .next t := hs
    refine busyStep_change hs fun hr hsel hs => ?_
    have hsel' := hsel
    simp only [State.inUnit, State.zerosReady, Bool.and_eq_true, decide_eq_true_eq] at hsel'
    rcases busyStep_delimiter (selected := fun s => s.inUnit && s.zerosReady) hr hsel with ⟨_, h⟩ | ⟨b, p, hp, hsei, ⟨hq, h⟩ | ⟨_, h⟩⟩ <;>
      (rw [h] at hs; cases hs)
    · exact .skip hsel'.1 hsel'.2
    · exact .deliver b p hsel'.1 hsel'.2 hp hsei hq
    · exact .fault _
  case byteOneInUnitPayload =>
    replace hs : busyStep (fun s => s.inUnit && !s.zerosReady) (scanPayload 0x01#8) s = .next t := hs
    refine payload_change 0x01#8 (by decide) (fun hsel => ?_) hs
    simp only [State.inUnit, State.zerosReady, Bool.and_eq_true, Bool.not_eq_true', decide_eq_false_iff_not] at hsel
    exact ⟨hsel.1, fun _ => by omega⟩
  case byteOtherSeekFirst02 => exact seek hs
  case byteOtherSeekFirst04 => exact seek hs
  case byteOtherSeekFirst08 => exact seek hs
  case byteOtherSeekFirst10 => exact seek hs
  case byteOtherSeekFirst20 => exact seek hs
  case byteOtherSeekFirst40 => exact seek hs
  case byteOtherSeekFirst80 => exact seek hs
  case byteOtherInUnit02 => exact other (by decide) (by decide) hs
  case byteOtherInUnit04 => exact other (by decide) (by decide) hs
  case byteOtherInUnit08 => exact other (by decide) (by decide) hs
  case byteOtherInUnit10 => exact other (by decide) (by decide) hs
  case byteOtherInUnit20 => exact other (by decide) (by decide) hs
  case byteOtherInUnit40 => exact other (by decide) (by decide) hs
  case byteOtherInUnit80 => exact other (by decide) (by decide) hs
  case eofSeekFirstEmpty =>
    replace hs : busyStep (fun s => s.seekFirst && decide (s.zrun = 0)) scanEmpty s = .next t := hs
    refine busyStep_change hs fun hr hsel hs => ?_
    rw [busyStep_empty hr hsel] at hs; cases hs
    simp only [State.seekFirst, Bool.and_eq_true, Bool.not_eq_true', decide_eq_true_eq] at hsel
    exact .empty hsel.1 hsel.2
  case eofSeekFirstNas =>
    replace hs : busyStep (fun s => s.seekFirst && decide (0 < s.zrun)) scanNotAStream s = .next t := hs
    refine notAStream_change (fun hsel => ?_) hs
    simp only [State.seekFirst, Bool.and_eq_true, Bool.not_eq_true'] at hsel; exact hsel.1
  case eofInUnit =>
    replace hs : busyStep (fun s => s.inUnit) scanLast s = .next t := hs
    refine busyStep_change hs fun hr hsel hs => ?_
    rcases busyStep_last hr hsel with ⟨_, h⟩ | ⟨hfit, ⟨_, h⟩ | ⟨b, p, hp, hsei, ⟨hq, h⟩ | ⟨_, h⟩⟩⟩ <;>
      (rw [h] at hs; cases hs)
    · exact .fault _
    · exact .lastEnds hsel hfit
    · exact .lastDelivered b p hsel hfit hp hsei hq
    · exact .fault _
  case failSeekFirst e => exact fail_change e hs
  case failInUnit e => exact fail_change e hs
  case srcReserved =>
    simp only [exec, execSrcReserved] at hs
    cases hr : s.reading <;> simp only [hr, if_true, if_false, Bool.false_eq_true] at hs <;> cases hs
    · exact .inl rfl
    · exact .inr ⟨rfl, .fault _⟩
  all_goals exact absurd hi (by simp [Instr.format])

/-- Everything a command can do (R171 to R176, R178 to R180, R182). -/
theorem exec_cmd_change {w : BitVec 2} {s t : State} (hs : exec (decodeCommand w) s = .next t) :
    t = s ∨
    (w = 0b10#2 ∧ t = s.construct) ∨
    (s.fault = none ∧
      ((w = 0b01#2 ∧ s.busy = true ∧ t = s.raiseFault .concurrentRequest) ∨
       (w = 0b11#2 ∧ t = s.raiseFault .reservedCommand) ∨
       (w = 0b01#2 ∧ s.busy = false ∧ s.terminal = false ∧ s.eofSeen = false ∧ t = { s with busy := true }) ∨
       (w = 0b01#2 ∧ s.busy = false ∧ s.terminal = false ∧ s.eofSeen = true ∧ t = s.enterTerminal .endOfStream) ∨
       (w = 0b01#2 ∧ s.busy = false ∧ s.dstate = .exhausted ∧ t = s.emit .endOfStream) ∨
       (w = 0b01#2 ∧ s.busy = false ∧ s.dstate = .errored ∧ t = s.emit .notAStream) ∨
       (w = 0b01#2 ∧ s.busy = false ∧ s.dstate = .failed ∧ t = s.emit (.sourceReadFailure s.failValue)))) := by
  have hw : ∀ w : BitVec 2, w = 0b00#2 ∨ w = 0b01#2 ∨ w = 0b10#2 ∨ w = 0b11#2 := by decide
  rcases hw w with rfl | rfl | rfl | rfl
  · cases hs; exact .inl rfl
  · rw [show exec (decodeCommand 0b01#2) s = execNextUnit s from rfl] at hs
    unfold execNextUnit at hs
    cases hl : s.live
    · simp only [hl, Bool.false_eq_true, if_false] at hs; cases hs; exact .inl rfl
    · simp only [hl, if_true] at hs
      refine .inr (.inr ⟨(State.live_iff s).1 hl, ?_⟩)
      cases hb : s.busy
      · simp only [hb, Bool.false_eq_true, if_false] at hs
        cases hd : s.dstate <;> simp only [hd] at hs
        case beforeFirstUnit =>
          cases he : s.eofSeen <;> simp only [he, Bool.false_eq_true, if_false, if_true] at hs <;> cases hs <;>
            simp [State.terminal, hd]
        case streaming =>
          cases he : s.eofSeen <;> simp only [he, Bool.false_eq_true, if_false, if_true] at hs <;> cases hs <;>
            simp [State.terminal, hd]
        all_goals (cases hs; simp [State.emit, State.emitSourceReadFailure, withFailInfo_failInfo])
      · simp only [hb, if_true] at hs; cases hs; exact .inl ⟨rfl, rfl, rfl⟩
  · cases hs; exact .inr (.inl ⟨rfl, rfl⟩)
  · rw [show exec (decodeCommand 0b11#2) s = execCmdReserved s from rfl] at hs
    unfold execCmdReserved at hs
    cases hl : s.live <;> simp only [hl, Bool.false_eq_true, if_false, if_true] at hs <;> cases hs
    · exact .inl rfl
    · exact .inr (.inr ⟨(State.live_iff s).1 hl, .inr (.inl ⟨rfl, rfl⟩)⟩)

/-- Everything a step can do when a header byte waits on the wire: its row runs (R145, R146, R148, R149). -/
theorem step_header_change {s : State} {h : Byte} (hw : s.waitingHeader = some h) :
    s.reading = true ∧
    ((∃ p, s.event = some (.slice (h :: p)) ∧ step s = .next (if isSei h then s.skipSlice else s.deliver h false)) ∨
     (∃ p, s.event = some (.last (h :: p)) ∧
       step s = .next (if isSei h then s.enterTerminal .endOfStream else s.deliver h true))) := by
  have hr : s.reading = true := by
    by_contra hc; simp [State.waitingHeader, hc] at hw
  have hst : step s = exec (decodeHeader h) s := by simp [step, fetch, hw]
  refine ⟨hr, ?_⟩
  simp only [State.waitingHeader, hr, if_true, eventHeader] at hw
  rw [hst, exec_decodeHeader, execHeader_eq]
  cases he : s.event with
  | none => simp [he, eventSlice] at hw
  | some ev =>
    cases ev with
    | slice sl =>
      cases sl with
      | nil => simp [he, eventSlice] at hw
      | cons b p =>
        simp [he, eventSlice] at hw; subst hw
        exact .inl ⟨p, rfl, by rw [filterRow_slice hr he, deliverRow_slice hr he, headerByte_fields]⟩
    | last sl =>
      cases sl with
      | nil => simp [he, eventSlice] at hw
      | cons b p =>
        simp [he, eventSlice] at hw; subst hw
        exact .inr ⟨p, rfl, by rw [filterRow_last hr he, deliverRow_last hr he, headerByte_fields]⟩
    | empty => simp [he, eventSlice] at hw
    | notAStream => simp [he, eventSlice] at hw
    | fail e => simp [he, eventSlice] at hw

/-- Everything a step can do while no header byte waits on the wire: the environment moves, a command runs, or a busy step runs. `u` is the
state with the step's input taken from the environment. -/
theorem step_change {s t : State} (hw : s.waitingHeader = none) (hs : step s = .next t) :
    (∃ w rest, s.inputs = .command w :: rest ∧ exec (decodeCommand w) { s with inputs := rest } = .next t) ∨
    (∃ ws rest, s.inputs = .rebind ws :: rest ∧ t = { s with inputs := rest, source := ws }) ∨
    (∃ rest, (s.inputs = .answer :: rest ∨ (s.inputs = [] ∧ rest = [])) ∧
      (t = { s with inputs := rest } ∨
       (s.reading = true ∧ s.source ≠ [] ∧ ReadChange { s with inputs := rest } t))) := by
  have symbol {u : State} (hs : exec (fetchSymbol u).1 (fetchSymbol u).2 = .next t) :
      t = u ∨ (u.reading = true ∧ u.source ≠ [] ∧ ReadChange u t) := by
    rcases fetchSymbol_cases u with ⟨w, ws, hr, hw, h⟩ | ⟨_, h⟩ <;> rw [h] at hs
    · have hfmt : (decodeSource u.cfg u.foundFirst u.zrun w).format = .src := by
        unfold decodeSource symbolRow byteRow otherInUnit otherSeekFirst
        (repeat' split) <;> rfl
      rcases exec_src_change hfmt hs with h | ⟨hr, h⟩
      · exact .inl h
      · exact .inr ⟨hr, by simp [hw], h⟩
    · cases hs; exact .inl rfl
  unfold step at hs
  rcases fetch_cases s with ⟨h, hw', _⟩ | ⟨_, ⟨w, rest, hi, h⟩ | ⟨ws, rest, hi, h⟩ | ⟨rest, hi, h⟩ | ⟨hi, h⟩⟩
  · rw [hw] at hw'; cases hw'
  · rw [h] at hs; exact .inl ⟨w, rest, hi, hs⟩
  · rw [h] at hs; cases hs; exact .inr (.inl ⟨ws, rest, hi, rfl⟩)
  · rw [h] at hs; exact .inr (.inr ⟨rest, .inl hi, symbol hs⟩)
  · rw [h] at hs
    have hu : ({ s with inputs := [] } : State) = s := by rw [← hi]
    exact .inr (.inr ⟨[], .inr ⟨hi, rfl⟩, by rw [hu]; exact symbol hs⟩)

end Sys2Proof.Machine
end

