-- ==== Sys2Proof/Laws/PerInstr.lean ====
section
/-! SUPPORT. A law of every instruction as syntax: its word has the width of its format (spec 30_encoding.md R70, R80, R82, R86). -/

/-- The word of a well-formed instruction fits its format. -/
def Sys2Proof.Laws.WordWidth.Statement (i : Sys2Proof.Instr) : Prop :=
  ∀ cfg : Sys2Proof.Config, i.wellFormed cfg = true → Sys2Proof.encode cfg i < 2 ^ i.format.width cfg

namespace Sys2Proof.Laws.WordWidth

theorem byte_fits {cfg : Config} {n : Nat} (h : n < 256) : srcNat cfg 0 n < 2 ^ (cfg.dataWidth + 2) :=
  srcNat_lt (by decide) (lt_of_lt_of_le h cfg.two_pow_eight_le)

theorem nalType0 (f : Bool) (nri : BitVec 2) : Statement (.nalType0 f nri) := fun _ _ => BitVec.isLt _
theorem nalType1 (f : Bool) (nri : BitVec 2) : Statement (.nalType1 f nri) := fun _ _ => BitVec.isLt _
theorem nalType2 (f : Bool) (nri : BitVec 2) : Statement (.nalType2 f nri) := fun _ _ => BitVec.isLt _
theorem nalType3 (f : Bool) (nri : BitVec 2) : Statement (.nalType3 f nri) := fun _ _ => BitVec.isLt _
theorem nalType4 (f : Bool) (nri : BitVec 2) : Statement (.nalType4 f nri) := fun _ _ => BitVec.isLt _
theorem nalType5 (f : Bool) (nri : BitVec 2) : Statement (.nalType5 f nri) := fun _ _ => BitVec.isLt _
theorem nalType6 (f : Bool) (nri : BitVec 2) : Statement (.nalType6 f nri) := fun _ _ => BitVec.isLt _
theorem nalType7 (f : Bool) (nri : BitVec 2) : Statement (.nalType7 f nri) := fun _ _ => BitVec.isLt _
theorem nalType8 (f : Bool) (nri : BitVec 2) : Statement (.nalType8 f nri) := fun _ _ => BitVec.isLt _
theorem nalType9 (f : Bool) (nri : BitVec 2) : Statement (.nalType9 f nri) := fun _ _ => BitVec.isLt _
theorem nalType10 (f : Bool) (nri : BitVec 2) : Statement (.nalType10 f nri) := fun _ _ => BitVec.isLt _
theorem nalType11 (f : Bool) (nri : BitVec 2) : Statement (.nalType11 f nri) := fun _ _ => BitVec.isLt _
theorem nalType12 (f : Bool) (nri : BitVec 2) : Statement (.nalType12 f nri) := fun _ _ => BitVec.isLt _
theorem nalType13 (f : Bool) (nri : BitVec 2) : Statement (.nalType13 f nri) := fun _ _ => BitVec.isLt _
theorem nalType14 (f : Bool) (nri : BitVec 2) : Statement (.nalType14 f nri) := fun _ _ => BitVec.isLt _
theorem nalType15 (f : Bool) (nri : BitVec 2) : Statement (.nalType15 f nri) := fun _ _ => BitVec.isLt _
theorem nalType16 (f : Bool) (nri : BitVec 2) : Statement (.nalType16 f nri) := fun _ _ => BitVec.isLt _
theorem nalType17 (f : Bool) (nri : BitVec 2) : Statement (.nalType17 f nri) := fun _ _ => BitVec.isLt _
theorem nalType18 (f : Bool) (nri : BitVec 2) : Statement (.nalType18 f nri) := fun _ _ => BitVec.isLt _
theorem nalType19 (f : Bool) (nri : BitVec 2) : Statement (.nalType19 f nri) := fun _ _ => BitVec.isLt _
theorem nalType20 (f : Bool) (nri : BitVec 2) : Statement (.nalType20 f nri) := fun _ _ => BitVec.isLt _
theorem nalType21 (f : Bool) (nri : BitVec 2) : Statement (.nalType21 f nri) := fun _ _ => BitVec.isLt _
theorem nalType22 (f : Bool) (nri : BitVec 2) : Statement (.nalType22 f nri) := fun _ _ => BitVec.isLt _
theorem nalType23 (f : Bool) (nri : BitVec 2) : Statement (.nalType23 f nri) := fun _ _ => BitVec.isLt _
theorem nalType24 (f : Bool) (nri : BitVec 2) : Statement (.nalType24 f nri) := fun _ _ => BitVec.isLt _
theorem nalType25 (f : Bool) (nri : BitVec 2) : Statement (.nalType25 f nri) := fun _ _ => BitVec.isLt _
theorem nalType26 (f : Bool) (nri : BitVec 2) : Statement (.nalType26 f nri) := fun _ _ => BitVec.isLt _
theorem nalType27 (f : Bool) (nri : BitVec 2) : Statement (.nalType27 f nri) := fun _ _ => BitVec.isLt _
theorem nalType28 (f : Bool) (nri : BitVec 2) : Statement (.nalType28 f nri) := fun _ _ => BitVec.isLt _
theorem nalType29 (f : Bool) (nri : BitVec 2) : Statement (.nalType29 f nri) := fun _ _ => BitVec.isLt _
theorem nalType30 (f : Bool) (nri : BitVec 2) : Statement (.nalType30 f nri) := fun _ _ => BitVec.isLt _
theorem nalType31 (f : Bool) (nri : BitVec 2) : Statement (.nalType31 f nri) := fun _ _ => BitVec.isLt _
theorem nop : Statement (.nop) := fun _ _ => by simp [encode, Instr.format, Format.width]
theorem nextUnit : Statement (.nextUnit) := fun _ _ => by simp [encode, Instr.format, Format.width]
theorem reset : Statement (.reset) := fun _ _ => by simp [encode, Instr.format, Format.width]
theorem cmdReserved : Statement (.cmdReserved) := fun _ _ => by simp [encode, Instr.format, Format.width]
theorem byteZeroSeekFirst : Statement (.byteZeroSeekFirst) := fun _ _ => byte_fits (by decide)
theorem byteZeroInUnit : Statement (.byteZeroInUnit) := fun _ _ => byte_fits (by decide)
theorem byteOneSeekFirstStart : Statement (.byteOneSeekFirstStart) := fun _ _ => byte_fits (by decide)
theorem byteOneSeekFirstNas : Statement (.byteOneSeekFirstNas) := fun _ _ => byte_fits (by decide)
theorem byteOneInUnitDelim : Statement (.byteOneInUnitDelim) := fun _ _ => byte_fits (by decide)
theorem byteOneInUnitPayload : Statement (.byteOneInUnitPayload) := fun _ _ => byte_fits (by decide)
theorem byteOtherSeekFirst02 (b : BitVec 1) : Statement (.byteOtherSeekFirst02 b) := fun _ _ => byte_fits (by have := b.isLt; omega)
theorem byteOtherSeekFirst04 (b : BitVec 2) : Statement (.byteOtherSeekFirst04 b) := fun _ _ => byte_fits (by have := b.isLt; omega)
theorem byteOtherSeekFirst08 (b : BitVec 3) : Statement (.byteOtherSeekFirst08 b) := fun _ _ => byte_fits (by have := b.isLt; omega)
theorem byteOtherSeekFirst10 (b : BitVec 4) : Statement (.byteOtherSeekFirst10 b) := fun _ _ => byte_fits (by have := b.isLt; omega)
theorem byteOtherSeekFirst20 (b : BitVec 5) : Statement (.byteOtherSeekFirst20 b) := fun _ _ => byte_fits (by have := b.isLt; omega)
theorem byteOtherSeekFirst40 (b : BitVec 6) : Statement (.byteOtherSeekFirst40 b) := fun _ _ => byte_fits (by have := b.isLt; omega)
theorem byteOtherSeekFirst80 (b : BitVec 7) : Statement (.byteOtherSeekFirst80 b) := fun _ _ => byte_fits (by have := b.isLt; omega)
theorem byteOtherInUnit02 (b : BitVec 1) : Statement (.byteOtherInUnit02 b) := fun _ _ => byte_fits (by have := b.isLt; omega)
theorem byteOtherInUnit04 (b : BitVec 2) : Statement (.byteOtherInUnit04 b) := fun _ _ => byte_fits (by have := b.isLt; omega)
theorem byteOtherInUnit08 (b : BitVec 3) : Statement (.byteOtherInUnit08 b) := fun _ _ => byte_fits (by have := b.isLt; omega)
theorem byteOtherInUnit10 (b : BitVec 4) : Statement (.byteOtherInUnit10 b) := fun _ _ => byte_fits (by have := b.isLt; omega)
theorem byteOtherInUnit20 (b : BitVec 5) : Statement (.byteOtherInUnit20 b) := fun _ _ => byte_fits (by have := b.isLt; omega)
theorem byteOtherInUnit40 (b : BitVec 6) : Statement (.byteOtherInUnit40 b) := fun _ _ => byte_fits (by have := b.isLt; omega)
theorem byteOtherInUnit80 (b : BitVec 7) : Statement (.byteOtherInUnit80 b) := fun _ _ => byte_fits (by have := b.isLt; omega)
theorem eofSeekFirstEmpty : Statement (.eofSeekFirstEmpty) := fun _ _ => srcNat_lt (by decide) (Nat.two_pow_pos _)
theorem eofSeekFirstNas : Statement (.eofSeekFirstNas) := fun _ _ => srcNat_lt (by decide) (Nat.two_pow_pos _)
theorem eofInUnit : Statement (.eofInUnit) := fun _ _ => srcNat_lt (by decide) (Nat.two_pow_pos _)
theorem failSeekFirst (e : SrcErr) : Statement (.failSeekFirst e) := fun _ h => srcNat_lt (by decide) (Config.code_lt (of_decide_eq_true h))
theorem failInUnit (e : SrcErr) : Statement (.failInUnit e) := fun _ h => srcNat_lt (by decide) (Config.code_lt (of_decide_eq_true h))
theorem srcReserved : Statement (.srcReserved) := fun _ _ => srcNat_lt (by decide) (Nat.two_pow_pos _)
theorem rspUnit (info : BitVec 8) : Statement (.rspUnit info) := fun _ _ => by have := info.isLt; simp only [encode, Instr.format, Format.width]; omega
theorem rspEndOfStream : Statement (.rspEndOfStream) := fun _ _ => by simp [encode, Instr.format, Format.width]
theorem rspNotAStream : Statement (.rspNotAStream) := fun _ _ => by simp [encode, Instr.format, Format.width]
theorem rspSourceReadFailure (info : BitVec 8) : Statement (.rspSourceReadFailure info) := fun _ _ => by have := info.isLt; simp only [encode, Instr.format, Format.width]; omega

end Sys2Proof.Laws.WordWidth
end

