-- ==== Sys2Proof/Tests/Slice0.lean ====
section
/-! SUPPORT. Tests of the definitions, each on one word or one step with its expected value from spec/ (the encoding tables of
30_encoding.md, the vectors and traces of 95_test_vectors.md), and a witness for every statement that has hypotheses. -/

namespace Sys2Proof.Tests

open Sys2Proof.Machine

/-! ## Helpers -/

/-- A build with the given limits and ERR_W = 8. -/
def build (cap seqW : Option Nat) : Config := { maxNalBytes := cap, seqW := seqW, errW := 8 }

/-- Inside a request in phase SEEK_FIRST, with `z` zeros read. -/
def seeking (z : Nat) : State := { State.reset with busy := true, zrun := z, pos := z }

/-- Inside a request in phase IN_UNIT, with these committed bytes and `z` pending zeros. -/
def inside (slice : List Byte) (z : Nat) : State :=
  { State.reset with busy := true, foundFirst := true, slice := slice, zrun := z }

/-- Inside a request, with this scan event on the wire. -/
def waiting (ev : ScanEvent) : State := { State.reset with busy := true, foundFirst := true, event := some ev }

/-- A value of the next state an outcome answers. -/
def after {α : Type} (r : Result) (f : State → α) : Option α :=
  match r with
  | .next s => some (f s)
  | .fault _ => none
  | .refused _ => none

/-- The UNIT of one header byte alone. -/
def oneByte (h : Byte) (f : Bool) (nri : BitVec 2) (t : BitVec 5) (seq : Nat) : NalUnit :=
  { payload := [h], length := 1, header := h, forbiddenBit := f, referenceIdc := nri, unitType := t, sequenceIndex := seq }

/-- The UNIT of 0xAA alone: F = 1, NRI = 1, T = 10 (95_test_vectors.md 2.1). -/
def unitAA (seq : Nat) : NalUnit := oneByte 0xAA#8 true 1#2 10#5 seq

/-- The UNIT of two zero bytes (95_test_vectors.md V-S4). -/
def unitZeros : NalUnit :=
  { payload := [0x00#8, 0x00#8], length := 2, header := 0x00#8, forbiddenBit := false, referenceIdc := 0#2, unitType := 0#5,
    sequenceIndex := 0 }

/-- A word's row, in the build of the vectors. -/
def rowOf (fmt : Format) (ff : Bool) (z : Nat) (w : Nat) : Option Instr :=
  match decodeWord Config.softwareSemantics ff z fmt w with
  | .ok i => some i
  | .error _ => none

/-! ## WellFormed refuses (R84, R86) -/

theorem test_fail_code_256_is_ill_formed : (Instr.failSeekFirst 256).wellFormed Config.softwareSemantics = false ∧
    (Instr.failInUnit 256).wellFormed Config.softwareSemantics = false := by decide

theorem test_fail_code_255_is_well_formed : (Instr.failSeekFirst 255).wellFormed Config.softwareSemantics = true ∧
    (Instr.failInUnit 255).wellFormed Config.softwareSemantics = true := by decide

theorem test_failure_info_beyond_a_4_bit_code_is_ill_formed :
    (Instr.rspSourceReadFailure 0x10#8).wellFormed { maxNalBytes := none, seqW := none, errW := 4 } = false ∧
    (Instr.rspSourceReadFailure 0x0F#8).wellFormed { maxNalBytes := none, seqW := none, errW := 4 } = true := by decide

/-! ## Words written out bit by bit from the encodings decode to their rows -/

/-- `frrttttt` (R70, R71, R73). -/
theorem test_header_words_0_to_7 :
    rowOf .hdr false 0 0b00000000 = some (.nalType0 false 0#2) ∧
    rowOf .hdr false 0 0b10000001 = some (.nalType1 true 0#2) ∧
    rowOf .hdr false 0 0b00100010 = some (.nalType2 false 1#2) ∧
    rowOf .hdr false 0 0b10100011 = some (.nalType3 true 1#2) ∧
    rowOf .hdr false 0 0b01000100 = some (.nalType4 false 2#2) ∧
    rowOf .hdr false 0 0b11000101 = some (.nalType5 true 2#2) ∧
    rowOf .hdr false 0 0b01100110 = some (.nalType6 false 3#2) ∧
    rowOf .hdr false 0 0b11100111 = some (.nalType7 true 3#2) := by decide

/-- `frrttttt` (R70, R71, R73). -/
theorem test_header_words_8_to_15 :
    rowOf .hdr false 0 0b00001000 = some (.nalType8 false 0#2) ∧
    rowOf .hdr false 0 0b10001001 = some (.nalType9 true 0#2) ∧
    rowOf .hdr false 0 0b00101010 = some (.nalType10 false 1#2) ∧
    rowOf .hdr false 0 0b10101011 = some (.nalType11 true 1#2) ∧
    rowOf .hdr false 0 0b01001100 = some (.nalType12 false 2#2) ∧
    rowOf .hdr false 0 0b11001101 = some (.nalType13 true 2#2) ∧
    rowOf .hdr false 0 0b01101110 = some (.nalType14 false 3#2) ∧
    rowOf .hdr false 0 0b11101111 = some (.nalType15 true 3#2) := by decide

/-- `frrttttt` (R70, R71, R73). -/
theorem test_header_words_16_to_23 :
    rowOf .hdr false 0 0b00010000 = some (.nalType16 false 0#2) ∧
    rowOf .hdr false 0 0b10010001 = some (.nalType17 true 0#2) ∧
    rowOf .hdr false 0 0b00110010 = some (.nalType18 false 1#2) ∧
    rowOf .hdr false 0 0b10110011 = some (.nalType19 true 1#2) ∧
    rowOf .hdr false 0 0b01010100 = some (.nalType20 false 2#2) ∧
    rowOf .hdr false 0 0b11010101 = some (.nalType21 true 2#2) ∧
    rowOf .hdr false 0 0b01110110 = some (.nalType22 false 3#2) ∧
    rowOf .hdr false 0 0b11110111 = some (.nalType23 true 3#2) := by decide

/-- `frrttttt` (R70, R71, R73). -/
theorem test_header_words_24_to_31 :
    rowOf .hdr false 0 0b00011000 = some (.nalType24 false 0#2) ∧
    rowOf .hdr false 0 0b10011001 = some (.nalType25 true 0#2) ∧
    rowOf .hdr false 0 0b00111010 = some (.nalType26 false 1#2) ∧
    rowOf .hdr false 0 0b10111011 = some (.nalType27 true 1#2) ∧
    rowOf .hdr false 0 0b01011100 = some (.nalType28 false 2#2) ∧
    rowOf .hdr false 0 0b11011101 = some (.nalType29 true 2#2) ∧
    rowOf .hdr false 0 0b01111110 = some (.nalType30 false 3#2) ∧
    rowOf .hdr false 0 0b11111111 = some (.nalType31 true 3#2) := by decide

/-- R80. -/
theorem test_command_words :
    rowOf .cmd false 0 0b00 = some .nop ∧
    rowOf .cmd false 0 0b01 = some .nextUnit ∧
    rowOf .cmd false 0 0b10 = some .reset ∧
    rowOf .cmd false 0 0b11 = some .cmdReserved := by decide

/-- `tag[1:0] || data[7:0]`, bytes 0x00 and 0x01 by phase and zero count (R82, R121). -/
theorem test_source_words_zero_and_one :
    rowOf .src false 0 0b0000000000 = some .byteZeroSeekFirst ∧
    rowOf .src true 0 0b0000000000 = some .byteZeroInUnit ∧
    rowOf .src false 2 0b0000000001 = some .byteOneSeekFirstStart ∧
    rowOf .src false 1 0b0000000001 = some .byteOneSeekFirstNas ∧
    rowOf .src true 2 0b0000000001 = some .byteOneInUnitDelim ∧
    rowOf .src true 1 0b0000000001 = some .byteOneInUnitPayload := by decide

/-- Bytes 0x02 to 0xFF in SEEK_FIRST, one or both ends of each range (R82, R104). -/
theorem test_source_words_other_seek_first :
    rowOf .src false 0 0b0000000010 = some (.byteOtherSeekFirst02 0#1) ∧
    rowOf .src false 0 0b0000000011 = some (.byteOtherSeekFirst02 1#1) ∧
    rowOf .src false 0 0b0000000110 = some (.byteOtherSeekFirst04 2#2) ∧
    rowOf .src false 0 0b0000001001 = some (.byteOtherSeekFirst08 1#3) ∧
    rowOf .src false 0 0b0000011111 = some (.byteOtherSeekFirst10 15#4) ∧
    rowOf .src false 0 0b0000100000 = some (.byteOtherSeekFirst20 0#5) ∧
    rowOf .src false 0 0b0001000001 = some (.byteOtherSeekFirst40 1#6) ∧
    rowOf .src false 0 0b0011111111 = some (.byteOtherSeekFirst80 127#7) := by decide

/-- Bytes 0x02 to 0xFF in IN_UNIT, one or both ends of each range (R82, R113). -/
theorem test_source_words_other_in_unit :
    rowOf .src true 0 0b0000000010 = some (.byteOtherInUnit02 0#1) ∧
    rowOf .src true 0 0b0000000011 = some (.byteOtherInUnit02 1#1) ∧
    rowOf .src true 0 0b0000000110 = some (.byteOtherInUnit04 2#2) ∧
    rowOf .src true 0 0b0000001001 = some (.byteOtherInUnit08 1#3) ∧
    rowOf .src true 0 0b0000011111 = some (.byteOtherInUnit10 15#4) ∧
    rowOf .src true 0 0b0000100000 = some (.byteOtherInUnit20 0#5) ∧
    rowOf .src true 0 0b0001000001 = some (.byteOtherInUnit40 1#6) ∧
    rowOf .src true 0 0b0010000000 = some (.byteOtherInUnit80 0#7) := by decide

/-- EOF with data ignored, FAIL with its code, the reserved tag (R82 to R85). -/
theorem test_source_words_eof_fail_reserved :
    rowOf .src false 0 0b0100000000 = some .eofSeekFirstEmpty ∧
    rowOf .src false 1 0b0111111111 = some .eofSeekFirstNas ∧
    rowOf .src true 0 0b0100000001 = some .eofInUnit ∧
    rowOf .src false 0 0b1000000101 = some (.failSeekFirst 5) ∧
    rowOf .src true 3 0b1011111111 = some (.failInUnit 255) ∧
    rowOf .src true 0 0b1100000000 = some .srcReserved ∧
    rowOf .src false 0 0b1111111111 = some .srcReserved := by decide

/-- `tag[1:0] || info[7:0]` (R86); the info of END_OF_STREAM and NOT_A_STREAM is 0. -/
theorem test_response_words :
    rowOf .rsp false 0 0b0010101011 = some (.rspUnit 0xAB#8) ∧
    rowOf .rsp false 0 0b0100000000 = some .rspEndOfStream ∧
    rowOf .rsp false 0 0b1000000000 = some .rspNotAStream ∧
    rowOf .rsp false 0 0b1100000101 = some (.rspSourceReadFailure 5#8) ∧
    decodeWord Config.softwareSemantics false 0 .rsp 0b0100000001 = .error .infoNotZero ∧
    decodeWord Config.softwareSemantics false 0 .rsp 0b10000000000 = .error (.wordTooWide .rsp) := by decide

/-- With ERR_W = 16 the data field has 16 bits; a BYTE word with one of the upper 8 set is reserved (R82, R83, R84). -/
theorem test_wide_source_words :
    let c : Config := { maxNalBytes := none, seqW := none, errW := 16 }
    decodeWord c true 0 .src 0b000000000001000001 = .ok (.byteOtherInUnit40 1#6) ∧
    decodeWord c true 0 .src 0b000000000101000001 = .ok .srcReserved ∧
    decodeWord c true 0 .src 0b101000000000000101 = .ok (.failInUnit 0x8005) := by decide

/-- Header decoding, rows of 95_test_vectors.md 2.1. -/
theorem test_header_fields :
    decodeHeaderFields 0xFF#8 = (true, 3#2, 31#5) ∧ decodeHeaderFields 0x67#8 = (false, 3#2, 7#5) ∧
    decodeHeaderFields 0x25#8 = (false, 1#2, 5#5) ∧ decodeHeaderFields 0x80#8 = (true, 0#2, 0#5) := by decide

/-- The table's words as the host numbers them: 8 bits a header byte, 10 a source word; a short command byte. -/
theorem test_table_words :
    decodeTableWord 8 0x65 = some (.nalType5 false 3#2) ∧ decodeTableWord 2 0b10 = some .reset ∧
    decodeTableWord 8 0b01 = some .nextUnit ∧ decodeTableWord 16 0x0205 = some (.failSeekFirst 5) := by decide

/-- The placed word is the first instruction after reset: 0x02 in SEEK_FIRST gives NOT_A_STREAM (R104). -/
theorem test_placed_word_runs :
    after (step (State.reset.withFetchWord 16 0x0002)) (fun s => (s.out, s.dstate, s.pos)) = some ([.notAStream], .errored, 1) ∧
    after (step (State.reset.withFetchWord 8 0x67)) (fun s => s.out) = some [.unit (oneByte 0x67#8 false 3#2 7#5 0)] ∧
    after (step (State.reset.withFetchWord 2 0b11)) (fun s => s.fault) = some (some .reservedCommand) := by decide

/-! ## Commands -/

theorem test_nop : after (exec .nop (inside [0xAA#8] 1)) (fun s => s == inside [0xAA#8] 1) = some true := by decide

theorem test_next_unit_accepted : after (exec .nextUnit State.reset) (fun s => (s.busy, s.pos, s.out)) = some (true, 0, []) := by
  decide

/-- V-I2. -/
theorem test_next_unit_while_busy : after (exec .nextUnit (inside [0xAA#8] 0)) (fun s => (s.fault, s.busy, s.out)) =
    some (some .concurrentRequest, true, []) := by decide

/-- S2: the second NEXT of `00 00 01 AB` gives END_OF_STREAM without a read (R175). -/
theorem test_next_unit_after_eof :
    after (exec .nextUnit { State.reset with foundFirst := true, dstate := .streaming, eofSeen := true, seq := 1, pos := 5 })
      (fun s => (s.out, s.dstate, s.pos)) = some ([.endOfStream], .exhausted, 5) := by decide

/-- V-S18: the code is repeated (R174). -/
theorem test_next_unit_failed :
    after (exec .nextUnit { State.reset with dstate := .failed, failCode := some 5, pos := 1 }) (fun s => (s.out, s.pos)) =
      some ([.sourceReadFailure 5], 1) := by decide

/-- V-I4, V-I6. -/
theorem test_reset : after (exec .reset { inside [0xAA#8] 0 with fault := some .reservedCommand, pos := 4, out := [.endOfStream] })
    (fun s => (s.busy, s.slice, s.fault, s.past)) =
    some (false, [], none, [{ out := [.endOfStream], fault := some .reservedCommand }]) := by decide

/-- V-I5. -/
theorem test_cmd_reserved : after (exec .cmdReserved { State.reset with dstate := .streaming, seq := 1 })
    (fun s => (s.fault, s.seq)) = some (some .reservedCommand, 1) := by decide

/-! ## Scanner rows -/

/-- V-S16: the count is exact. -/
theorem test_byte_zero_seek_first : after (exec .byteZeroSeekFirst (seeking 4)) (fun s => (s.zrun, s.pos, s.busy)) =
    some (5, 5, true) := by decide

theorem test_byte_zero_in_unit : after (exec .byteZeroInUnit (inside [0xAA#8] 1)) (fun s => (s.zrun, s.slice)) =
    some (2, [0xAA#8]) := by decide

/-- V-S10. -/
theorem test_first_start_code : after (exec .byteOneSeekFirstStart (seeking 4)) (fun s => (s.foundFirst, s.zrun, s.busy, s.out)) =
    some (true, 0, true, []) := by decide

/-- V-S12: zrun stays 1. -/
theorem test_early_one : after (exec .byteOneSeekFirstNas (seeking 1)) (fun s => (s.out, s.dstate, s.zrun, s.pos, s.busy)) =
    some ([.notAStream], .errored, 1, 2, false) := by decide

/-- V-S2: a run of five zeros is wholly delimiter. -/
theorem test_delimiter_delivers : after (exec .byteOneInUnitDelim (inside [0xAA#8] 5))
    (fun s => (s.out, s.slice, s.zrun, s.busy)) =
    some ([.unit (unitAA 0)], [], 0, false) := by decide

/-- V-D3: SEI with F = 1 and NRI = 3 is skipped inside the request. -/
theorem test_delimiter_skips_sei : after (exec .byteOneInUnitDelim (inside [0xE6#8] 2)) (fun s => (s.out, s.slice, s.seq, s.busy)) =
    some ([], [], 0, true) := by decide

/-- V-S7: `00 01` in a unit is payload. -/
theorem test_one_is_payload : after (exec .byteOneInUnitPayload (inside [0xAA#8] 1)) (fun s => (s.slice, s.zrun)) =
    some ([0xAA#8, 0x00#8, 0x01#8], 0) := by decide

/-- S1: `00 02`. -/
theorem test_other_seek_first : after (exec (.byteOtherSeekFirst02 0#1) (seeking 1)) (fun s => (s.out, s.pos, s.zrun)) =
    some ([.notAStream], 2, 1) := by decide

/-- V-S1: `00 00 03` in a unit is payload. -/
theorem test_other_in_unit : after (exec (.byteOtherInUnit02 1#1) (inside [0x65#8] 2)) (fun s => (s.slice, s.zrun)) =
    some ([0x65#8, 0x00#8, 0x00#8, 0x03#8], 0) := by decide

/-- V-F2: 0xCC does not fit after AA BB when MAX_NAL_BYTES is 2. -/
theorem test_capacity_exceeded :
    after (exec (.byteOtherInUnit80 0x4C#7) { inside [0xAA#8, 0xBB#8] 0 with cfg := build (some 2) none })
      (fun s => (s.fault, s.slice, s.pos, s.busy)) = some (some .capacityExceeded, [0xAA#8, 0xBB#8], 1, true) := by decide

/-- S3, the empty input. -/
theorem test_eof_empty : after (exec .eofSeekFirstEmpty (seeking 0)) (fun s => (s.out, s.dstate, s.eofSeen, s.foundFirst)) =
    some ([.endOfStream], .exhausted, true, false) := by decide

/-- V-S13. -/
theorem test_eof_after_zero : after (exec .eofSeekFirstNas (seeking 1)) (fun s => (s.out, s.dstate, s.zrun, s.eofSeen)) =
    some ([.notAStream], .errored, 1, false) := by decide

/-- V-S4: the pending zeros form the last slice. -/
theorem test_eof_zeros_are_the_slice : after (exec .eofInUnit (inside [] 2)) (fun s => (s.out, s.dstate, s.eofSeen)) =
    some ([.unit unitZeros], .streaming, true) := by decide

/-- V-F4: the pending zero does not fit at EOF. -/
theorem test_eof_capacity : after (exec .eofInUnit { inside [0xAA#8, 0xBB#8] 1 with cfg := build (some 2) none })
    (fun s => (s.fault, s.zrun, s.slice)) = some (some .capacityExceeded, 1, [0xAA#8, 0xBB#8]) := by decide

/-- V-S19: a failure before the first start code is not NOT_A_STREAM. -/
theorem test_fail_seek_first : after (exec (.failSeekFirst 5) (seeking 1)) (fun s => (s.out, s.dstate, s.failCode, s.zrun)) =
    some ([.sourceReadFailure 5], .failed, some 5, 1) := by decide

/-- V-S20: the slice is kept and never delivered. -/
theorem test_fail_in_unit : after (exec (.failInUnit 7) (inside [0xAA#8] 0)) (fun s => (s.out, s.dstate, s.slice)) =
    some ([.sourceReadFailure 7], .failed, [0xAA#8]) := by decide

/-- V-I8. -/
theorem test_src_reserved : after (exec .srcReserved { inside [0xAA#8] 0 with pos := 4 }) (fun s => (s.fault, s.pos, s.slice, s.busy)) =
    some (some .reservedSourceTag, 5, [0xAA#8], true) := by decide

/-- A step reads the source's next word and runs the row it selects. -/
theorem test_step_reads_a_symbol :
    after (step { seeking 2 with source := [byteWord 0x01#8, eofWord] }) (fun s => (s.foundFirst, s.source, s.pos)) =
      some (true, [eofWord], 3) := by decide

/-- R247: the source does not answer. -/
theorem test_step_stalls : after (step (inside [0xAA#8] 0)) (fun s => s == inside [0xAA#8] 0) = some true := by decide

/-! ## Header and response rows -/

/-- V-D5: type 31 is delivered. -/
theorem test_nal_type_31 : after (exec (.nalType31 false 0#2) (waiting (.slice [0x1F#8]))) (fun s => (s.out, s.seq, s.eofSeen)) =
    some ([.unit (oneByte 0x1F#8 false 0#2 31#5 0)], 1, false) := by decide

/-- V-D7: the last unit sets eof_seen and the state stays STREAMING. -/
theorem test_nal_type_11_last : after (exec (.nalType11 true 1#2) (waiting (.last [0xAB#8]))) (fun s => (s.out, s.dstate, s.eofSeen)) =
    some ([.unit (oneByte 0xAB#8 true 1#2 11#5 0)], .streaming, true) := by decide

/-- V-D1: SEI at EOF. -/
theorem test_nal_type_6_last : after (exec (.nalType6 false 0#2) (waiting (.last [0x06#8, 0x05#8]))) (fun s => (s.out, s.dstate, s.seq)) =
    some ([.endOfStream], .exhausted, 0) := by decide

theorem test_responses :
    after (exec (.rspUnit 0xAA#8) (waiting (.slice [0xAA#8]))) (fun s => s.out) = some [.unit (unitAA 0)] ∧
    after (exec .rspEndOfStream State.reset) (fun s => s.out) = some [.endOfStream] ∧
    after (exec .rspNotAStream State.reset) (fun s => s.out) = some [.notAStream] ∧
    after (exec (.rspSourceReadFailure 0x34#8) { State.reset with failCode := some 0x1234 }) (fun s => s.out) =
      some [.sourceReadFailure 0x1234] := by decide

/-- A UNIT's header word, then its sequence_index, length and payload (R86; 95_test_vectors.md, RSP 0x0AB); the failure's word. -/
theorem test_response_items :
    responseItems (build none none) (.unit { oneByte 0xAB#8 true 1#2 11#5 3 with payload := [0xAB#8, 0x05#8], length := 2 }) =
      [.header 0x0AB#10, .sequenceIndex 3, .length 2, .payloadByte 0xAB#8, .payloadByte 0x05#8] ∧
    responseItems (build none none) (.sourceReadFailure 0x1205) = [.header 0x305#10] := by decide

/-- The port goes on across a RESET: the ended instance's response stays before the new one's. -/
theorem test_response_port_across_reset :
    { State.reset with past := [{ out := [.notAStream], fault := none }], out := [.endOfStream] : State }.responsePort =
      [.header 0x200#10, .header 0x100#10] := by decide

/-- The response port's words (R86). -/
theorem test_response_port : responseWord (build none none) (.unit (unitAA 0)) = 0x0AA#10 ∧
    responseWord (build none none) (.sourceReadFailure 5) = 0x305#10 := by decide

/-! ## Witnesses: a state and operands that meet all of a statement's hypotheses, clause by clause -/

theorem test_witness_decodeOfEncode :
    let c := build none none
    ((Instr.failInUnit 255).wellFormed c = true ∧ (Instr.failInUnit 255).rowCondition true 0 = true) ∧
    (Instr.byteOneSeekFirstStart.wellFormed c = true ∧ Instr.byteOneSeekFirstStart.rowCondition false 2 = true) ∧
    (Instr.byteOneInUnitPayload.wellFormed c = true ∧ Instr.byteOneInUnitPayload.rowCondition true 1 = true) ∧
    ((Instr.rspSourceReadFailure 0xFF#8).wellFormed c = true ∧ (Instr.rspSourceReadFailure 0xFF#8).rowCondition false 0 = true) := by
  decide

theorem test_witness_byteWordWithHighBit :
    let c : Config := { maxNalBytes := none, seqW := none, errW := 16 }
    (∃ w : SrcWord, w.tag = 0b00#2 ∧ w.dataField c < 256 ∧ w.data = 255) ∧
    (∃ w : SrcWord, w.tag = 0b00#2 ∧ 256 ≤ w.dataField c ∧ w.data = 256) :=
  ⟨⟨⟨0b00#2, 255⟩, by decide⟩, ⟨⟨0b00#2, 256⟩, by decide⟩⟩

theorem test_witness_nextUnitAccepted :
    (∃ s : State, s.fault = none ∧ s.busy = false ∧ s.dstate = .beforeFirstUnit ∧ s.eofSeen = false) ∧
    (∃ s : State, s.fault = none ∧ s.busy = false ∧ s.dstate = .streaming ∧ s.eofSeen = false) :=
  ⟨⟨State.reset, by decide⟩, ⟨{ State.reset with dstate := .streaming, foundFirst := true, seq := 1 }, by decide⟩⟩

theorem test_witness_nextUnitRepeats :
    (∃ s : State, s.fault = none ∧ s.busy = false ∧ s.dstate = .exhausted) ∧
    (∃ s : State, s.fault = none ∧ s.busy = false ∧ s.dstate = .errored) ∧
    (∃ s : State, s.fault = none ∧ s.busy = false ∧ s.dstate = .failed ∧ s.failCode = some 7) :=
  ⟨⟨{ State.reset with dstate := .exhausted }, by decide⟩, ⟨{ State.reset with dstate := .errored }, by decide⟩,
    ⟨{ State.reset with dstate := .failed, failCode := some 7 }, by decide⟩⟩

theorem test_witness_nextUnitAfterEof :
    (∃ s : State, s.fault = none ∧ s.busy = false ∧ s.dstate = .streaming ∧ s.eofSeen = true) ∧
    (∃ s : State, s.fault = none ∧ s.busy = false ∧ s.dstate = .beforeFirstUnit ∧ s.eofSeen = true) :=
  ⟨⟨{ State.reset with dstate := .streaming, eofSeen := true }, by decide⟩, ⟨{ State.reset with eofSeen := true }, by decide⟩⟩

theorem test_witness_nextUnitWhileBusy : ∃ s : State, s.fault = none ∧ s.busy = true := ⟨seeking 0, by decide⟩

theorem test_witness_reservedCommand : ∃ s : State, s.fault = none ∧ s.busy = true ∧ s.slice ≠ [] :=
  ⟨inside [0xAA#8] 1, by decide⟩

/-- The two phases, for every statement about a busy step. -/
theorem test_witness_busyStep :
    (∃ s : State, s.busy = true ∧ s.fault = none ∧ s.foundFirst = false) ∧
    (∃ s : State, s.busy = true ∧ s.fault = none ∧ s.foundFirst = true) :=
  ⟨⟨seeking 0, by decide⟩, ⟨inside [] 0, by decide⟩⟩

theorem test_witness_firstStartCode : ∃ s : State, s.busy = true ∧ s.fault = none ∧ s.foundFirst = false ∧ 2 ≤ s.zrun ∧ s.zrun = 2 :=
  ⟨seeking 2, by decide⟩

theorem test_witness_earlyOne :
    (∃ s : State, s.busy = true ∧ s.fault = none ∧ s.foundFirst = false ∧ s.zrun < 2 ∧ s.zrun = 1) ∧
    (∃ s : State, s.busy = true ∧ s.fault = none ∧ s.foundFirst = false ∧ s.zrun < 2 ∧ s.zrun = 0) :=
  ⟨⟨seeking 1, by decide⟩, ⟨seeking 0, by decide⟩⟩

theorem test_witness_emptyInput : ∃ s : State, s.busy = true ∧ s.fault = none ∧ s.foundFirst = false ∧ s.zrun = 0 :=
  ⟨seeking 0, by decide⟩

theorem test_witness_zerosThenEof : ∃ s : State, s.busy = true ∧ s.fault = none ∧ s.foundFirst = false ∧ 0 < s.zrun ∧ s.zrun = 1 :=
  ⟨seeking 1, by decide⟩

/-- Exactly at and one beyond SEQ_W = 1: seq 1 fits, seq 2 does not. -/
theorem test_witness_delimiter :
    (∃ s : State, s.busy = true ∧ s.fault = none ∧ s.foundFirst = true ∧ 2 ≤ s.zrun ∧ s.slice = []) ∧
    (∃ s : State, s.busy = true ∧ s.fault = none ∧ s.foundFirst = true ∧ 2 ≤ s.zrun ∧ s.slice = [0xE6#8] ∧
      headerType 0xE6#8 = 6#5) ∧
    (∃ s : State, s.busy = true ∧ s.fault = none ∧ s.foundFirst = true ∧ 2 ≤ s.zrun ∧ s.slice = [0xAA#8] ∧
      headerType 0xAA#8 ≠ 6#5 ∧ s.seq = 1 ∧ (∀ w ∈ s.cfg.seqW, s.seq < 2 ^ w) ∧ s.cfg.seqW = some 1) ∧
    (∃ s : State, s.busy = true ∧ s.fault = none ∧ s.foundFirst = true ∧ 2 ≤ s.zrun ∧ s.slice = [0xAA#8] ∧
      headerType 0xAA#8 ≠ 6#5 ∧ s.seq = 2 ∧ ∃ w ∈ s.cfg.seqW, 2 ^ w ≤ s.seq) :=
  ⟨⟨inside [] 2, by decide⟩, ⟨inside [0xE6#8] 2, by decide⟩,
    ⟨{ inside [0xAA#8] 2 with seq := 1, cfg := build none (some 1) }, by decide⟩,
    ⟨{ inside [0xAA#8] 2 with seq := 2, cfg := build none (some 1) }, by decide, by decide, by decide, by decide, by decide,
      by decide, by decide, 1, by decide, by decide⟩⟩

/-- Exactly at capacity and one beyond, the payload rows: MAX_NAL_BYTES = 3 with one committed byte and one pending zero. -/
theorem test_witness_payload :
    (∃ s : State, s.busy = true ∧ s.fault = none ∧ s.foundFirst = true ∧ s.zrun < 2 ∧ s.cfg.maxNalBytes = some 3 ∧
      ∀ cap ∈ s.cfg.maxNalBytes, s.slice.length + (s.zrun + 1) ≤ cap) ∧
    (∃ s : State, s.busy = true ∧ s.fault = none ∧ s.foundFirst = true ∧ s.zrun < 2 ∧
      ∃ cap ∈ s.cfg.maxNalBytes, cap < s.slice.length + (s.zrun + 1)) :=
  ⟨⟨{ inside [0xAA#8] 1 with cfg := build (some 3) none }, by decide⟩,
    ⟨{ inside [0xAA#8] 1 with cfg := build (some 2) none }, by decide, by decide, by decide, by decide, 2, by decide, by decide⟩⟩

/-- The pending zeros exactly fit at end of input; the slice empty, SEI, delivered, and with a full index. -/
theorem test_witness_eofLast :
    (∃ s : State, s.busy = true ∧ s.fault = none ∧ s.foundFirst = true ∧
      (∀ cap ∈ s.cfg.maxNalBytes, s.slice.length + s.zrun ≤ cap) ∧ s.slice ++ zeros s.zrun = []) ∧
    (∃ s : State, s.busy = true ∧ s.fault = none ∧ s.foundFirst = true ∧
      (∀ cap ∈ s.cfg.maxNalBytes, s.slice.length + s.zrun ≤ cap) ∧ s.slice ++ zeros s.zrun = [0x06#8, 0x00#8] ∧
      headerType 0x06#8 = 6#5) ∧
    (∃ s : State, s.busy = true ∧ s.fault = none ∧ s.foundFirst = true ∧ s.cfg.maxNalBytes = some 2 ∧
      (∀ cap ∈ s.cfg.maxNalBytes, s.slice.length + s.zrun ≤ cap) ∧ s.slice ++ zeros s.zrun = [0xAA#8, 0x00#8] ∧
      headerType 0xAA#8 ≠ 6#5 ∧ ∀ w ∈ s.cfg.seqW, s.seq < 2 ^ w) ∧
    (∃ s : State, s.busy = true ∧ s.fault = none ∧ s.foundFirst = true ∧
      (∀ cap ∈ s.cfg.maxNalBytes, s.slice.length + s.zrun ≤ cap) ∧ s.slice ++ zeros s.zrun = [0x00#8] ∧
      headerType 0x00#8 ≠ 6#5 ∧ ∃ w ∈ s.cfg.seqW, 2 ^ w ≤ s.seq) :=
  ⟨⟨inside [] 0, by decide⟩, ⟨inside [0x06#8] 1, by decide⟩,
    ⟨{ inside [0xAA#8] 1 with cfg := build (some 2) (some 1), seq := 1 }, by decide⟩,
    ⟨{ inside [] 1 with cfg := build none (some 1), seq := 2 }, by decide, by decide, by decide, by decide, by decide, by decide,
      1, by decide, by decide⟩⟩

theorem test_witness_eofBeyondCapacity : ∃ s : State, s.busy = true ∧ s.fault = none ∧ s.foundFirst = true ∧
    ∃ cap ∈ s.cfg.maxNalBytes, cap < s.slice.length + s.zrun :=
  ⟨{ inside [0xAA#8, 0xBB#8] 1 with cfg := build (some 2) none }, by decide, by decide, by decide, 2, by decide, by decide⟩

theorem test_witness_headerRowWithFullIndex :
    (∃ s : State, s.busy = true ∧ s.fault = none ∧ (∃ w ∈ s.cfg.seqW, 2 ^ w ≤ s.seq) ∧ headerType 0xAA#8 ≠ 6#5 ∧
      s.event = some (.slice [0xAA#8])) ∧
    (∃ s : State, s.busy = true ∧ s.fault = none ∧ (∃ w ∈ s.cfg.seqW, 2 ^ w ≤ s.seq) ∧ headerType 0xAA#8 ≠ 6#5 ∧
      s.event = some (.last [0xAA#8])) :=
  ⟨⟨{ waiting (.slice [0xAA#8]) with cfg := build none (some 1), seq := 2 }, by decide, by decide, ⟨1, by decide, by decide⟩,
      by decide, by decide⟩,
    ⟨{ waiting (.last [0xAA#8]) with cfg := build none (some 1), seq := 2 }, by decide, by decide, ⟨1, by decide, by decide⟩,
      by decide, by decide⟩⟩

/-- For the statements about header rows that deliver or filter. -/
theorem test_witness_headerRow :
    (∃ s : State, s.busy = true ∧ s.fault = none ∧ (∀ w ∈ s.cfg.seqW, s.seq < 2 ^ w) ∧ s.event = some (.slice [0x67#8, 0x01#8])) ∧
    (∃ s : State, s.busy = true ∧ s.fault = none ∧ (∀ w ∈ s.cfg.seqW, s.seq < 2 ^ w) ∧ s.event = some (.last [0x67#8])) :=
  ⟨⟨{ waiting (.slice [0x67#8, 0x01#8]) with cfg := build none (some 1), seq := 1 }, by decide⟩,
    ⟨{ waiting (.last [0x67#8]) with cfg := build none (some 1), seq := 1 }, by decide⟩⟩

theorem test_witness_headerRowWithoutASlice :
    ∃ i : Instr, i.format = .hdr ∧
      (∃ s : State, s.busy = false ∧ s.event ≠ none) ∧ (∃ s : State, s.fault ≠ none ∧ s.event ≠ none) ∧
      (∃ s : State, s.busy = true ∧ s.fault = none ∧ eventSlice s.event = []) :=
  ⟨.nalType5 false 3#2, rfl, ⟨{ waiting (.slice [0x65#8]) with busy := false }, by decide⟩,
    ⟨{ waiting (.slice [0x65#8]) with fault := some .seqOverflow }, by decide⟩, ⟨waiting (.last []), by decide⟩⟩

theorem test_witness_responseRows : ∃ s : State, s.fault = none ∧ s.failCode = some 0x1234 :=
  ⟨{ State.reset with failCode := some 0x1234 }, by decide⟩

theorem test_witness_stepRuns :
    (∃ s : State, s.waitingHeader = some 0x65#8) ∧
    (∃ s : State, s.waitingHeader = none ∧ s.inputs = [.command 0b01#2]) ∧
    (∃ s : State, s.waitingHeader = none ∧ s.busy = true ∧ s.fault = none ∧ s.source = [eofWord] ∧ s.inputs = [.answer]) ∧
    (∃ s : State, s.waitingHeader = none ∧ s.busy = true ∧ s.fault = none ∧ s.source = [eofWord] ∧ s.inputs = []) ∧
    (∃ s : State, s.waitingHeader = none ∧ s.busy = false ∧ s.source ≠ [] ∧ s.inputs = [.answer]) ∧
    (∃ s : State, s.waitingHeader = none ∧ s.inputs = [.rebind [eofWord]]) ∧
    (∃ s : State, s.waitingHeader = none ∧ s.busy = true ∧ s.fault = none ∧ s.source = [] ∧ s.inputs = []) :=
  ⟨⟨waiting (.slice [0x65#8]), by decide⟩, ⟨{ State.reset with inputs := [.command 0b01#2] }, by decide⟩,
    ⟨{ seeking 0 with source := [eofWord], inputs := [.answer] }, by decide⟩, ⟨{ seeking 0 with source := [eofWord] }, by decide⟩,
    ⟨{ State.reset with source := [eofWord], inputs := [.answer] }, by decide⟩,
    ⟨{ State.reset with inputs := [.rebind [eofWord]] }, by decide⟩, ⟨seeking 0, by decide⟩⟩

theorem test_witness_placedTableWord : decodeTableWord 16 0x0101 = some .eofSeekFirstEmpty ∧
    decodeTableWord 8 0xFF = some (.nalType31 true 3#2) ∧ decodeTableWord 2 3 = some .cmdReserved := by decide

theorem test_witness_stalledRequest : ∃ s : State, s.event = none ∧ s.source = [] ∧ s.inputs = [] ∧ s.busy = true :=
  ⟨inside [0xAA#8] 0, by decide⟩

theorem test_witness_unselectedRow :
    ∃ i : Instr, i.format = .src ∧ (∃ s : State, s.busy = false) ∧
      ∃ s : State, s.busy = true ∧ i.rowCondition s.foundFirst s.zrun = false :=
  ⟨.byteOneInUnitDelim, rfl, ⟨State.reset, rfl⟩, ⟨inside [0xAA#8] 1, by decide⟩⟩

theorem test_witness_faultedInstance : ∃ s t : State, s.fault ≠ none ∧ s.inputs = [.command 0b01#2] ∧ step s = .next t ∧
    ∀ rest : List Input, s.inputs ≠ .command 0b10#2 :: rest :=
  ⟨{ inside [0xAA#8] 0 with fault := some .concurrentRequest, inputs := [.command 0b01#2] },
    { inside [0xAA#8] 0 with fault := some .concurrentRequest }, by decide, rfl, rfl, by simp⟩

theorem test_witness_faultingBusyStep : ∃ s t : State, Instr.srcReserved.format = .src ∧ s.fault = none ∧
    exec .srcReserved s = .next t ∧ t.fault = some .reservedSourceTag :=
  ⟨inside [0xAA#8] 0, { inside [0xAA#8] 0 with fault := some .reservedSourceTag, pos := 1 }, rfl, rfl, rfl, rfl⟩

theorem test_witness_terminalInstance : ∃ s t : State, s.terminal = true ∧ s.busy = false ∧ Instr.nextUnit ≠ .reset ∧
    exec .nextUnit s = .next t :=
  ⟨{ State.reset with dstate := .errored }, { State.reset with dstate := .errored, out := [.notAStream] }, rfl, rfl, by decide, rfl⟩

/-- For every statement whose only hypothesis is that a step answers a next state: a read, a RESET, a repositioning. -/
theorem test_witness_step :
    (∃ s t : State, step s = .next t ∧ t.pos = s.pos + 1) ∧
    (∃ s t : State, step s = .next t ∧ s.inputs = [.command 0b10#2] ∧ s.waitingHeader = none) ∧
    (∃ s t : State, step s = .next t ∧ s.inputs = [.rebind [eofWord]]) :=
  ⟨⟨{ seeking 1 with source := [byteWord 0x00#8] }, seeking 2, rfl, rfl⟩,
    ⟨{ seeking 1 with inputs := [.command 0b10#2] }, { State.reset with past := [⟨[], none⟩] }, rfl, rfl, rfl⟩,
    ⟨{ State.reset with inputs := [.rebind [eofWord]] }, { State.reset with source := [eofWord] }, rfl, rfl⟩⟩

theorem test_witness_acceptedRequest : ∃ s t : State, Instr.nextUnit ≠ .reset ∧ Instr.nextUnit.format ≠ .rsp ∧
    exec .nextUnit s = .next t ∧ s.fault = none ∧ s.busy = false :=
  ⟨State.reset, seeking 0, by decide, by decide, rfl, rfl, rfl⟩

/-- The core invariants and a step that gives NOT_A_STREAM, and one that gives a UNIT and moves dstate to STREAMING. -/
theorem test_witness_coreInv :
    (∃ s t : State, CoreInv s ∧ step s = .next t ∧ t.out = s.out ++ [.notAStream]) ∧
    (∃ s t : State, CoreInv s ∧ step s = .next t ∧ t.out = s.out ++ [.unit (unitAA 0)] ∧ t.dstate = .streaming) :=
  ⟨⟨{ seeking 1 with source := [eofWord] },
      { seeking 1 with source := [], pos := 2, busy := false, dstate := .errored, out := [.notAStream] }, by decide, rfl, rfl⟩,
    ⟨{ inside [0xAA#8] 2 with source := [byteWord 0x01#8] },
      { inside [] 0 with pos := 1, busy := false, dstate := .streaming, seq := 1, out := [.unit (unitAA 0)] }, by decide, rfl, rfl,
      rfl⟩⟩

/-- The sequence, payload and capacity invariants on a state that has given a unit and holds the next one's bytes. -/
theorem test_witness_streamInv :
    ∃ s t : State, SequenceInv s ∧ PayloadInv s ∧ CapacityInv s ∧ s.event = none ∧ s.cfg = build (some 3) (some 1) ∧
      s.units.length = 1 ∧ step s = .next t ∧ t.slice.length = 3 :=
  let s : State :=
    { inside [0x65#8] 1 with
      cfg := build (some 3) (some 1), out := [.unit (unitAA 0)], seq := 1, dstate := .streaming, source := [byteWord 0x01#8] }
  ⟨s, { s with source := [], slice := [0x65#8, 0x00#8, 0x01#8], zrun := 0, pos := 1 }, by decide, by decide, by decide, rfl, rfl,
    by decide, rfl, rfl⟩

/-- A count beyond saturation in each phase, in a valid build. -/
theorem test_witness_saturated :
    (∃ s : State, s.cfg.valid = true ∧ s.foundFirst = false ∧ s.saturated ≠ s) ∧
    (∃ s : State, s.cfg.valid = true ∧ s.foundFirst = true ∧ s.saturated ≠ s) :=
  ⟨⟨{ seeking 3 with cfg := build (some 1) none }, by decide⟩, ⟨{ inside [] 3 with cfg := build (some 1) none }, by decide⟩⟩

theorem test_witness_nextUnitCall : ∃ s : State, s.busy = false ∧ s.fault = none ∧ s.event = none ∧ s.inputs = [] ∧
    s.source ≠ [] :=
  ⟨{ State.reset with source := streamOf [0x00#8] }, by decide⟩

theorem test_witness_terminalResponse : ∃ s t : State, nextUnit 1 s = .answered t .endOfStream ∧
    Response.endOfStream.asUnit = none :=
  ⟨{ State.reset with source := [eofWord] }, { State.reset with pos := 1, eofSeen := true, dstate := .exhausted }, by decide,
    by decide⟩

theorem test_witness_unstartedStream : ((0x01#8 : Byte) ≠ 0x00#8 ∧ ¬ ((0x01#8 : Byte) = 0x01#8 ∧ 2 ≤ 1)) ∧
    ((0x02#8 : Byte) ≠ 0x00#8 ∧ ¬ ((0x02#8 : Byte) = 0x01#8 ∧ 2 ≤ 3)) ∧ 1 ≤ 1 := by decide

/-- S4's stream. -/
theorem test_witness_drain :
    let us : List (Nat × List Byte) := [(3, [0xAA#8]), (3, [0x06#8]), (2, [0xAB#8, 0x00#8, 0x01#8])]
    ∀ u ∈ us, 2 ≤ u.1 ∧ u.2 ≠ [] ∧ hasStartCode u.2 = false ∧ u.2.getLast? ≠ some 0x00#8 := by decide

end Sys2Proof.Tests
end

section
/-! SUPPORT. The build parameters are kept by every step (spec 00_scope.md R7). -/

namespace Sys2Proof.Machine

@[simp] theorem State.enterTerminal_cfg (sig : Signal) (s : State) : (s.enterTerminal sig).cfg = s.cfg := by
  cases sig <;> rfl

@[simp] theorem State.construct_cfg (s : State) : s.construct.cfg = s.cfg := rfl

@[simp] theorem State.deliver_cfg (h : Byte) (last : Bool) (s : State) : (s.deliver h last).cfg = s.cfg := by
  rcases State.deliver_cases h last s with ⟨_, e⟩ | ⟨_, e⟩ <;> simp [e]

theorem ReadChange.cfg_eq {s t : State} (h : ReadChange s t) : t.cfg = s.cfg := by
  cases h <;> simp

/-- No command writes the build's parameters; RESET keeps them too (log entry 12). -/
theorem exec_decodeCommand_cfg {w : BitVec 2} {s t : State} (hs : exec (decodeCommand w) s = .next t) : t.cfg = s.cfg := by
  rcases exec_cmd_change hs with rfl | ⟨_, rfl⟩ | ⟨_, ⟨_, _, rfl⟩ | ⟨_, rfl⟩ | ⟨_, _, _, _, rfl⟩ | ⟨_, _, _, _, rfl⟩ |
    ⟨_, _, _, rfl⟩ | ⟨_, _, _, rfl⟩ | ⟨_, _, _, rfl⟩⟩ <;> simp

/-- The row of a header byte left on the wire does not write the build's parameters. -/
theorem step_cfg_of_waitingHeader {s t : State} {h : Byte} (hw : s.waitingHeader = some h) (hs : step s = .next t) :
    t.cfg = s.cfg := by
  obtain ⟨_, ⟨p, _, e⟩ | ⟨p, _, e⟩⟩ := step_header_change hw <;> rw [e] at hs <;> cases hs <;> split <;> simp

/-- A step at the ports does not write the build's parameters, whatever the environment presents. -/
theorem step_cfg_of_ports {s t : State} (hw : s.waitingHeader = none) (hs : step s = .next t) : t.cfg = s.cfg := by
  rcases step_change hw hs with ⟨w, rest, _, hc⟩ | ⟨ws, rest, _, rfl⟩ | ⟨rest, _, rfl | ⟨_, _, hr⟩⟩
  · exact (exec_decodeCommand_cfg hc :)
  · rfl
  · rfl
  · exact hr.cfg_eq

/-- Settles O45: a step runs a header row left on the wire, or a command, a source symbol or a move of the environment at the
ports. -/
theorem buildParametersNeverChange : Obligations.BuildParametersNeverChange := by
  unfold Obligations.BuildParametersNeverChange
  intro s t hs
  cases hw : s.waitingHeader with
  | some h => exact step_cfg_of_waitingHeader hw hs
  | none => exact step_cfg_of_ports hw hs

end Sys2Proof.Machine
end

section
/-! SUPPORT. Draining a whole stream (spec 30_encoding.md R89): how the "next unit" loop reads zeros, a payload and the end of a
slice, then the whole stream, by induction on its units. -/

namespace Sys2Proof.Machine

/-! ## Start codes inside a byte list (R75) -/

theorem zeros_succ_append (n : Nat) (l : List Byte) : zeros (n + 1) ++ l = zeros n ++ 0x00#8 :: l := by
  simp [zeros, List.replicate_succ']

/-- A start code inside the end of a list is inside the list. -/
theorem hasStartCode_append_left (l : List Byte) {m : List Byte} (h : hasStartCode m = true) : hasStartCode (l ++ m) = true := by
  induction l with
  | nil => exact h
  | cons b l ih => simp [hasStartCode, ih]

/-- The end of a list without a start code holds none either. -/
theorem hasStartCode_of_append {l m : List Byte} (h : hasStartCode (l ++ m) = false) : hasStartCode m = false := by
  by_contra hm
  rw [hasStartCode_append_left l (by simpa using hm)] at h
  cases h

/-- Two or more zeros and a 0x01 are a start code. -/
theorem hasStartCode_zeros_one {z : Nat} (hz : 2 ≤ z) (l : List Byte) : hasStartCode (zeros z ++ 0x01#8 :: l) = true := by
  obtain ⟨n, rfl⟩ := Nat.exists_eq_add_of_le' hz
  rw [zeros_succ_append, zeros_succ_append]
  exact hasStartCode_append_left _ (by simp [hasStartCode])

/-! ## The words of a stream (R82, R88) -/

theorem byteWord_symbol (cfg : Config) (b : Byte) : (byteWord b).symbol cfg = some (.byte b) := by
  have hb : b.toNat % 2 ^ cfg.dataWidth = b.toNat := Nat.mod_eq_of_lt (lt_of_lt_of_le b.isLt cfg.two_pow_eight_le)
  simp [SrcWord.symbol, SrcWord.dataField, byteWord, hb, b.isLt]

theorem eofWord_symbol (cfg : Config) : eofWord.symbol cfg = some .eof := rfl

/-! ## One iteration of the loop (R181) -/

section Iteration

variable {s : State} {w : SrcWord} {ws : List SrcWord} {sym : Symbol}
  (hs : s.source = w :: ws) (he : s.event = none) (hw : w.symbol s.cfg = some sym) (hf : (scan sym s.srcRead).fault = none)

include hs he in
/-- With nothing on the wire, the read of R181 is SrcRead. -/
theorem State.read_eq_srcRead : { s with pos := s.pos + 1, source := ws } = s.srcRead := by
  simp [State.srcRead, hs, he]

include hs he hw hf

/-- A symbol that reports no event lets the loop go on. -/
theorem nextUnitLoop_quiet (hev : (scan sym s.srcRead).event = none) (fuel : Nat) :
    nextUnitLoop (fuel + 1) s = nextUnitLoop fuel (scan sym s.srcRead) := by
  simp [nextUnitLoop, hs, hw, State.read_eq_srcRead hs he, hf, hev]

/-- A non-empty slice is skipped (SEI) or delivered (R145, R146). -/
theorem nextUnitLoop_slice {h : Byte} {p : List Byte} (hev : (scan sym s.srcRead).event = some (.slice (h :: p))) (fuel : Nat) :
    nextUnitLoop (fuel + 1) s =
      if isSei h then nextUnitLoop fuel (scan sym s.srcRead).skipSlice
      else deliverCall h p false s.srcRead (scan sym s.srcRead) := by
  simp [nextUnitLoop, hs, hw, State.read_eq_srcRead hs he, hf, hev]

/-- A non-empty last slice ends the stream (SEI) or is delivered (R148, R149). -/
theorem nextUnitLoop_last {h : Byte} {p : List Byte} (hev : (scan sym s.srcRead).event = some (.last (h :: p))) (fuel : Nat) :
    nextUnitLoop (fuel + 1) s =
      if isSei h then
        .answered { scan sym s.srcRead with eofSeen := true, dstate := .exhausted, event := none } .endOfStream
      else deliverCall h p true s.srcRead (scan sym s.srcRead) := by
  simp [nextUnitLoop, hs, hw, State.read_eq_srcRead hs he, hf, hev]

end Iteration

/-- A delivery whose index fits SEQ_W answers the unit (R152). -/
theorem deliverCall_of_room {s : State} (hroom : s.seqFull = false) (h : Byte) (p : List Byte) (last : Bool) (before : State) :
    deliverCall h p last before s =
      .answered { s with seq := s.seq + 1, dstate := .streaming, eofSeen := s.eofSeen || last, event := none }
        (.unit (unitOf h p s.seq)) := by
  simp [deliverCall, hroom]

/-! ## Reading zeros and a payload -/

/-- Nothing has gone wrong or ended yet, nothing is on the wire, and the build has no limits (R7). -/
structure UnderWay (s : State) : Prop where
  fault : s.fault = none
  event : s.event = none
  eofSeen : s.eofSeen = false
  maxNalBytes : s.cfg.maxNalBytes = none
  seqW : s.cfg.seqW = none

theorem UnderWay.fits {s : State} (u : UnderWay s) (n : Nat) : s.fits n = true := by
  simp [State.fits, u.maxNalBytes]

theorem UnderWay.seqFull {s : State} (u : UnderWay s) : s.seqFull = false := by
  simp [State.seqFull, u.seqW]

theorem UnderWay.srcRead {s : State} (u : UnderWay s) : UnderWay s.srcRead :=
  ⟨u.fault, rfl, u.eofSeen, u.maxNalBytes, u.seqW⟩

/-- The state once `n` further symbols have been read and `rest` is left, with this slice and zero count. -/
def State.readOn (n : Nat) (rest : List SrcWord) (slice : List Byte) (zrun : Nat) (s : State) : State :=
  { s with pos := s.pos + n, source := rest, slice := slice, zrun := zrun }

theorem UnderWay.readOn {s : State} (u : UnderWay s) (n : Nat) (rest : List SrcWord) (slice : List Byte) (z : Nat) :
    UnderWay (s.readOn n rest slice z) :=
  ⟨u.fault, u.event, u.eofSeen, u.maxNalBytes, u.seqW⟩

theorem State.readOn_readOn (s : State) (n m : Nat) (ws rest : List SrcWord) (sl slice : List Byte) (y z : Nat) :
    (s.readOn n ws sl y).readOn m rest slice z = s.readOn (n + m) rest slice z := by
  simp [State.readOn, Nat.add_assoc]

theorem State.readOn_zero {s : State} {z : Nat} (hz : s.zrun = z) : s.readOn 0 s.source s.slice z = s := by
  subst hz; rfl

section

variable (s : State) (n : Nat) (rest : List SrcWord) (slice : List Byte) (z : Nat)

@[simp] theorem State.readOn_foundFirst : (s.readOn n rest slice z).foundFirst = s.foundFirst := rfl
@[simp] theorem State.readOn_zrun : (s.readOn n rest slice z).zrun = z := rfl
@[simp] theorem State.readOn_slice : (s.readOn n rest slice z).slice = slice := rfl
@[simp] theorem State.readOn_seq : (s.readOn n rest slice z).seq = s.seq := rfl
@[simp] theorem State.readOn_source : (s.readOn n rest slice z).source = rest := rfl

end

/-- A zero is counted, in either phase (R101, R110). -/
theorem nextUnitLoop_zero {s : State} {rest : List SrcWord} (u : UnderWay s) (hs : s.source = byteWord 0x00#8 :: rest)
    (fuel : Nat) : nextUnitLoop (fuel + 1) s = nextUnitLoop fuel (s.readOn 1 rest s.slice (s.zrun + 1)) := by
  have hscan : scan (.byte 0x00#8) s.srcRead = s.readOn 1 rest s.slice (s.zrun + 1) := by
    simp [scan, scanZero, State.srcRead, State.readOn, hs, u.event]
  rw [nextUnitLoop_quiet hs u.event (byteWord_symbol _ _) (by rw [hscan]; exact u.fault) (by rw [hscan]; exact u.event), hscan]

/-- `k` zeros are counted (R101, R110). -/
theorem nextUnitLoop_zeros (k : Nat) {s : State} {rest : List SrcWord} (u : UnderWay s)
    (hs : s.source = (zeros k).map byteWord ++ rest) (fuel : Nat) :
    nextUnitLoop (k + fuel) s = nextUnitLoop fuel (s.readOn k rest s.slice (s.zrun + k)) := by
  induction k generalizing s with
  | zero =>
    have hrest : rest = s.source := by simpa [zeros] using hs.symm
    rw [hrest, Nat.zero_add, Nat.add_zero, State.readOn_zero rfl]
  | succ k ih =>
    rw [Nat.add_right_comm, nextUnitLoop_zero (rest := (zeros k).map byteWord ++ rest) u hs, ih (u.readOn _ _ _ _) rfl,
      State.readOn_readOn]
    simp [State.readOn, Nat.add_comm, Nat.add_left_comm]

/-- In a unit, a byte that is no zero and completes no start code joins the slice behind the pending zeros (R112, R113). -/
theorem nextUnitLoop_payloadByte {s : State} {b : Byte} {rest : List SrcWord} (u : UnderWay s) (hff : s.foundFirst = true)
    (hs : s.source = byteWord b :: rest) (hb : b ≠ 0x00#8) (hone : b = 0x01#8 → s.zrun < 2) (fuel : Nat) :
    nextUnitLoop (fuel + 1) s = nextUnitLoop fuel (s.readOn 1 rest (s.slice ++ (zeros s.zrun ++ [b])) 0) := by
  have hscan : scan (.byte b) s.srcRead = s.readOn 1 rest (s.slice ++ (zeros s.zrun ++ [b])) 0 := by
    have hpay : scan (.byte b) s.srcRead = scanPayload b s.srcRead := by
      by_cases h1 : b = 0x01#8
      · have hz : ¬ 2 ≤ s.zrun := by have := hone h1; omega
        simp [scan, h1, State.inUnit, hff, State.zerosReady, hz]
      · simp [scan, hb, h1, State.inUnit, hff]
    rw [hpay, scanPayload_of_fits (u.srcRead.fits _)]
    simp [State.srcRead, State.readOn, hs, u.event]
  rw [nextUnitLoop_quiet hs u.event (byteWord_symbol _ _) (by rw [hscan]; exact u.fault) (by rw [hscan]; exact u.event), hscan]

/-- In a unit, bytes that complete no start code and do not end in a zero all join the slice, behind the pending zeros. -/
theorem nextUnitLoop_payload (bs : List Byte) {s : State} {rest : List SrcWord} (u : UnderWay s) (hff : s.foundFirst = true)
    (hs : s.source = bs.map byteWord ++ rest) (hcode : hasStartCode (zeros s.zrun ++ bs) = false)
    (hend : (zeros s.zrun ++ bs).getLast? ≠ some 0x00#8) (fuel : Nat) :
    nextUnitLoop (bs.length + fuel) s =
      nextUnitLoop fuel (s.readOn bs.length rest (s.slice ++ (zeros s.zrun ++ bs)) 0) := by
  induction bs generalizing s with
  | nil =>
    have hz : s.zrun = 0 := by
      by_contra h
      exact hend (by simp [zeros, List.getLast?_replicate, h])
    have hrest : rest = s.source := by simpa using hs.symm
    simp [hz, hrest, zeros, State.readOn_zero hz]
  | cons b bs ih =>
    rw [List.length_cons, Nat.add_right_comm]
    by_cases hb : b = 0x00#8
    · subst hb
      rw [nextUnitLoop_zero (rest := bs.map byteWord ++ rest) u hs, ih (u.readOn _ _ _ _) hff rfl
        (by rw [← zeros_succ_append] at hcode; exact hcode) (by rw [← zeros_succ_append] at hend; exact hend),
        State.readOn_readOn, Nat.add_comm 1, ← zeros_succ_append]
      rfl
    · have hone : b = 0x01#8 → s.zrun < 2 := by
        rintro rfl
        by_contra hz
        rw [hasStartCode_zeros_one (by omega)] at hcode
        cases hcode
      have hsplit : zeros s.zrun ++ b :: bs = (zeros s.zrun ++ [b]) ++ bs := by simp
      rw [hsplit] at hcode hend ⊢
      have hend' : bs.getLast? ≠ some 0x00#8 := fun h => hend (List.mem_getLast?_append_of_mem_getLast? h)
      rw [nextUnitLoop_payloadByte (rest := bs.map byteWord ++ rest) u hff hs hb hone,
        ih (u.readOn 1 _ (s.slice ++ (zeros s.zrun ++ [b])) 0) hff rfl (hasStartCode_of_append hcode) hend',
        State.readOn_readOn, Nat.add_comm 1, State.readOn_slice, List.append_assoc]
      rfl

/-! ## The two ends of a unit -/

/-- A payload as the streams of R2 delimit it: not empty, no start code inside, and the last byte is no zero. -/
structure PayloadOk (p : List Byte) : Prop where
  nonempty : p ≠ []
  noStartCode : hasStartCode p = false
  noTrailingZero : p.getLast? ≠ some 0x00#8

/-- A start code has just been read: a unit begins. -/
structure AtUnit (s : State) : Prop extends UnderWay s where
  foundFirst : s.foundFirst = true
  slice : s.slice = []
  zrun : s.zrun = 0

theorem AtUnit.readOn {s : State} (a : AtUnit s) (n : Nat) (rest : List SrcWord) : AtUnit (s.readOn n rest [] 0) :=
  ⟨a.toUnderWay.readOn n rest [] 0, a.foundFirst, rfl, rfl⟩

/-- The state after a delivery to the caller (R152): one index used, and the next call reads on. -/
def State.delivered (s : State) : State := { s with seq := s.seq + 1, dstate := .streaming }

@[simp] theorem State.delivered_seq (s : State) : s.delivered.seq = s.seq + 1 := rfl
@[simp] theorem State.delivered_source (s : State) : s.delivered.source = s.source := rfl

theorem AtUnit.delivered {s : State} (a : AtUnit s) : AtUnit s.delivered :=
  ⟨⟨a.fault, a.event, a.eofSeen, a.maxNalBytes, a.seqW⟩, a.foundFirst, a.slice, a.zrun⟩

/-- The first start code opens the first unit (R102). -/
theorem nextUnitLoop_firstStart {s : State} {rest : List SrcWord} (u : UnderWay s) (hff : s.foundFirst = false)
    (hz : 2 ≤ s.zrun) (hs : s.source = byteWord 0x01#8 :: rest) (fuel : Nat) :
    nextUnitLoop (fuel + 1) s = nextUnitLoop fuel { s.readOn 1 rest [] 0 with foundFirst := true } := by
  have hscan : scan (.byte 0x01#8) s.srcRead = { s.readOn 1 rest [] 0 with foundFirst := true } := by
    simp [scan, scanFirstStart, State.inUnit, State.zerosReady, State.srcRead, State.readOn, hff, hz, hs, u.event]
  rw [nextUnitLoop_quiet hs u.event (byteWord_symbol _ _) (by rw [hscan]; exact u.fault) (by rw [hscan]; exact u.event), hscan]

/-- A start code behind a non-empty slice skips it (SEI) or delivers it (R111, R145, R146). -/
theorem nextUnitLoop_delimiter {s : State} {h : Byte} {p : List Byte} {rest : List SrcWord} (u : UnderWay s)
    (hff : s.foundFirst = true) (hz : 2 ≤ s.zrun) (hsl : s.slice = h :: p) (hs : s.source = byteWord 0x01#8 :: rest)
    (fuel : Nat) :
    nextUnitLoop (fuel + 1) s =
      if isSei h then nextUnitLoop fuel (s.readOn 1 rest [] 0)
      else .answered (s.readOn 1 rest [] 0).delivered (.unit (unitOf h p s.seq)) := by
  have hscan : scan (.byte 0x01#8) s.srcRead = { s.readOn 1 rest [] 0 with event := some (.slice (h :: p)) } := by
    simp [scan, scanDelimiter, State.inUnit, State.zerosReady, State.srcRead, State.readOn, hff, hz, hsl, hs]
  rw [nextUnitLoop_slice hs u.event (byteWord_symbol _ _) (by rw [hscan]; exact u.fault) (by rw [hscan]),
    deliverCall_of_room (by rw [hscan]; exact u.seqFull), hscan]
  simp [State.skipSlice, State.readOn, State.delivered, u.event]

/-- End of input behind a non-empty slice ends the stream (SEI) or delivers the last unit (R114, R148, R149). -/
theorem nextUnitLoop_eofInUnit {s : State} {h : Byte} {p : List Byte} {rest : List SrcWord} (u : UnderWay s)
    (hff : s.foundFirst = true) (hz : s.zrun = 0) (hsl : s.slice = h :: p) (hs : s.source = eofWord :: rest) (fuel : Nat) :
    nextUnitLoop (fuel + 1) s =
      if isSei h then .answered { s.readOn 1 rest [] 0 with eofSeen := true, dstate := .exhausted } .endOfStream
      else .answered { (s.readOn 1 rest [] 0).delivered with eofSeen := true } (.unit (unitOf h p s.seq)) := by
  have hscan : scan .eof s.srcRead = { s.readOn 1 rest [] 0 with event := some (.last (h :: p)) } := by
    have hlast : scan .eof s.srcRead = scanLast s.srcRead := by simp [scan, State.inUnit, hff]
    rw [hlast, scanLast_of_fits u.srcRead.fault (u.srcRead.fits _)]
    simp [State.srcRead, State.readOn, zeros, hz, hsl, hs]
  rw [nextUnitLoop_last hs u.event (eofWord_symbol _) (by rw [hscan]; exact u.fault) (by rw [hscan]),
    deliverCall_of_room (by rw [hscan]; exact u.seqFull), hscan]
  simp [State.readOn, State.delivered, u.event]

/-- A payload at the beginning of a unit becomes the slice. -/
theorem nextUnitLoop_slicePayload {s : State} {p : List Byte} {rest : List SrcWord} (a : AtUnit s) (ok : PayloadOk p)
    (hs : s.source = p.map byteWord ++ rest) (fuel : Nat) :
    nextUnitLoop (p.length + fuel) s = nextUnitLoop fuel (s.readOn p.length rest p 0) := by
  have hnone : zeros s.zrun = [] := by rw [a.zrun]; rfl
  rw [nextUnitLoop_payload p a.toUnderWay a.foundFirst hs (by rw [hnone]; exact ok.noStartCode)
    (by rw [hnone]; exact ok.noTrailingZero), a.slice, hnone]
  rfl

/-- A unit before another one: payload, zeros and 0x01. -/
theorem nextUnitLoop_unit {s : State} {h : Byte} {p : List Byte} {k : Nat} {rest : List SrcWord} (a : AtUnit s)
    (ok : PayloadOk (h :: p)) (hk : 2 ≤ k)
    (hs : s.source = (h :: p).map byteWord ++ ((zeros k).map byteWord ++ byteWord 0x01#8 :: rest)) (fuel : Nat) :
    nextUnitLoop ((h :: p).length + (k + (fuel + 1))) s =
      if isSei h then nextUnitLoop fuel (s.readOn ((h :: p).length + k + 1) rest [] 0)
      else .answered (s.readOn ((h :: p).length + k + 1) rest [] 0).delivered (.unit (unitOf h p s.seq)) := by
  rw [nextUnitLoop_slicePayload a ok hs, nextUnitLoop_zeros k (a.toUnderWay.readOn _ _ _ _) rfl, State.readOn_readOn,
    State.readOn_slice, State.readOn_zrun, Nat.zero_add,
    nextUnitLoop_delimiter (a.toUnderWay.readOn _ _ _ _) a.foundFirst hk rfl rfl, State.readOn_readOn]
  rfl

/-- The last unit: payload and end of input. -/
theorem nextUnitLoop_lastUnit {s : State} {h : Byte} {p : List Byte} {rest : List SrcWord} (a : AtUnit s)
    (ok : PayloadOk (h :: p)) (hs : s.source = (h :: p).map byteWord ++ eofWord :: rest) (fuel : Nat) :
    nextUnitLoop ((h :: p).length + (fuel + 1)) s =
      if isSei h then
        .answered { s.readOn ((h :: p).length + 1) rest [] 0 with eofSeen := true, dstate := .exhausted } .endOfStream
      else
        .answered { (s.readOn ((h :: p).length + 1) rest [] 0).delivered with eofSeen := true } (.unit (unitOf h p s.seq)) := by
  rw [nextUnitLoop_slicePayload a ok hs, nextUnitLoop_eofInUnit (a.toUnderWay.readOn _ _ _ _) a.foundFirst rfl rfl rfl,
    State.readOn_readOn]
  rfl

/-! ## Draining (R89) -/

/-- The rest of a DRAIN once a call has ended. -/
def drainAfter (fuel calls : Nat) : CallResult → List Response
  | .answered t (.unit u) => .unit u :: drain fuel calls t
  | .answered _ r => [r]
  | .faulted _ => []
  | .waiting _ => []

theorem drain_succ (fuel calls : Nat) (s : State) : drain fuel (calls + 1) s = drainAfter fuel calls (nextUnit fuel s) := rfl

/-- After a delivery the next call reads on. -/
theorem drainAfter_delivered {s : State} (h : s.eofSeen = false) (fuel calls : Nat) (u : NalUnit) :
    drainAfter fuel (calls + 1) (.answered s.delivered (.unit u)) =
      .unit u :: drainAfter fuel calls (nextUnitLoop fuel s.delivered) := by
  have hcall : nextUnit fuel s.delivered = nextUnitLoop fuel s.delivered := by simp [nextUnit, State.delivered, h]
  rw [← hcall]
  rfl

/-- After the delivery of the last unit the next call answers END_OF_STREAM without a read (R175). -/
theorem drainAfter_lastDelivered (fuel calls : Nat) (s : State) (u : NalUnit) :
    drainAfter fuel (calls + 1) (.answered { s.delivered with eofSeen := true } (.unit u)) = [.unit u, .endOfStream] := rfl

/-- A payload is kept when its header byte is no SEI byte (R145). -/
def keptPayload (p : List Byte) : Bool := !isSei (p.headD 0x00#8)

/-- The UNIT responses for these payloads, the first with index `q` (R145, R154). -/
def unitResponses (q : Nat) (ps : List (List Byte)) : List Response :=
  ((ps.filter keptPayload).zipIdx q).map fun p => .unit (unitOf (p.1.headD 0x00#8) p.1.tail p.2)

theorem unitResponses_nil (q : Nat) : unitResponses q [] = [] := rfl

theorem unitResponses_cons (q : Nat) (h : Byte) (p : List Byte) (ps : List (List Byte)) :
    unitResponses q ((h :: p) :: ps) =
      if isSei h then unitResponses q ps else .unit (unitOf h p q) :: unitResponses (q + 1) ps := by
  cases hsei : isSei h <;> simp [unitResponses, keptPayload, hsei]

/-- The bytes of the units, each behind its start code. -/
def delimited (us : List (Nat × List Byte)) : List Byte := us.flatMap fun u => startCode u.1 ++ u.2

theorem streamOf_delimited_cons (k : Nat) (p : List Byte) (us : List (Nat × List Byte)) :
    streamOf (delimited ((k, p) :: us)) =
      (zeros k).map byteWord ++ byteWord 0x01#8 :: (p.map byteWord ++ streamOf (delimited us)) := by
  simp [delimited, streamOf, startCode]

/-- Draining from the beginning of a unit with payload `p`, with `us` behind it. -/
theorem drainAfter_nextUnitLoop (us : List (Nat × List Byte)) {s : State} {p : List Byte} {f fuel calls : Nat} (a : AtUnit s)
    (ok : PayloadOk p) (hus : ∀ u ∈ us, 2 ≤ u.1 ∧ PayloadOk u.2)
    (hs : s.source = p.map byteWord ++ streamOf (delimited us)) (hf : s.source.length ≤ f) (hfuel : s.source.length ≤ fuel)
    (hcalls : us.length < calls) :
    drainAfter fuel calls (nextUnitLoop f s) = unitResponses s.seq (p :: us.map Prod.snd) ++ [.endOfStream] := by
  induction us generalizing s p f calls with
  | nil =>
    obtain ⟨h, p, rfl⟩ := List.exists_cons_of_ne_nil ok.nonempty
    obtain ⟨calls, rfl⟩ : ∃ c, calls = c + 1 := Nat.exists_eq_add_one.2 (Nat.zero_lt_of_lt hcalls)
    rw [show streamOf (delimited []) = [eofWord] from rfl] at hs
    obtain ⟨f, rfl⟩ : ∃ g, f = (h :: p).length + (g + 1) :=
      ⟨f - ((h :: p).length + 1), by simp [hs] at hf ⊢; omega⟩
    rw [nextUnitLoop_lastUnit a ok hs, List.map_nil, unitResponses_cons, unitResponses_nil, unitResponses_nil]
    cases isSei h
    · exact drainAfter_lastDelivered fuel calls _ _
    · rfl
  | cons v us ih =>
    rw [List.length_cons] at hcalls
    obtain ⟨k, p'⟩ := v
    obtain ⟨⟨hk, ok'⟩, hus⟩ := List.forall_mem_cons.1 hus
    obtain ⟨h, p, rfl⟩ := List.exists_cons_of_ne_nil ok.nonempty
    rw [streamOf_delimited_cons] at hs
    have hlen : (h :: p).length + k + 1 + (p'.map byteWord ++ streamOf (delimited us)).length = s.source.length := by
      simp [hs, zeros]; omega
    obtain ⟨f, rfl⟩ : ∃ g, f = (h :: p).length + (k + (g + 1)) := ⟨f - ((h :: p).length + k + 1), by omega⟩
    obtain ⟨calls, rfl⟩ : ∃ c, calls = c + 1 := Nat.exists_eq_add_one.2 (Nat.zero_lt_of_lt hcalls)
    have next := a.readOn ((h :: p).length + k + 1) (p'.map byteWord ++ streamOf (delimited us))
    have hrest : (p'.map byteWord ++ streamOf (delimited us)).length ≤ fuel := by omega
    rw [nextUnitLoop_unit a ok hk hs, List.map_cons, unitResponses_cons]
    cases isSei h
    · exact (drainAfter_delivered next.eofSeen fuel calls _).trans <|
        congrArg (.unit (unitOf h p s.seq) :: ·) (ih next.delivered ok' hus rfl hrest hrest (by omega))
    · exact ih next ok' hus rfl (by rw [State.readOn_source]; omega) hrest (by omega)

/-- From reset, zeros and 0x01 lead to the beginning of the first unit (R101, R102). -/
theorem nextUnit_reset_startCode {k : Nat} (hk : 2 ≤ k) (rest : List SrcWord) (fuel : Nat) :
    ∃ t, AtUnit t ∧ t.seq = 0 ∧ t.source = rest ∧
      nextUnit (k + (fuel + 1)) { State.reset with source := (zeros k).map byteWord ++ byteWord 0x01#8 :: rest } =
        nextUnitLoop fuel t := by
  have u (source : List SrcWord) : UnderWay { State.reset with source := source } := ⟨rfl, rfl, rfl, rfl, rfl⟩
  refine ⟨_, ?_, ?_, ?_, (nextUnitLoop_zeros k (u _) rfl (fuel + 1)).trans
    (nextUnitLoop_firstStart ((u _).readOn _ _ _ _) rfl (by simpa [State.reset] using hk) rfl fuel)⟩
  · exact ⟨⟨rfl, rfl, rfl, rfl, rfl⟩, rfl, rfl, rfl⟩
  · rfl
  · rfl

/-- Draining from reset, where `us` is the whole stream. -/
theorem drain_reset (us : List (Nat × List Byte)) (hus : ∀ u ∈ us, 2 ≤ u.1 ∧ PayloadOk u.2) :
    drain ((delimited us).length + 1) (us.length + 1) { State.reset with source := streamOf (delimited us) } =
      unitResponses 0 (us.map Prod.snd) ++ [.endOfStream] := by
  cases us with
  | nil => rfl
  | cons v us =>
    obtain ⟨k, p⟩ := v
    obtain ⟨⟨hk, ok⟩, hus⟩ := List.forall_mem_cons.1 hus
    have hlen : (delimited ((k, p) :: us)).length + 1 = k + ((p.map byteWord ++ streamOf (delimited us)).length + 1) := by
      simp [delimited, streamOf, startCode, zeros]; omega
    obtain ⟨t, ht, hseq, hsource, hcall⟩ := nextUnit_reset_startCode hk (p.map byteWord ++ streamOf (delimited us))
      (p.map byteWord ++ streamOf (delimited us)).length
    rw [drain_succ, streamOf_delimited_cons, hlen, hcall,
      drainAfter_nextUnitLoop us ht ok hus hsource (by rw [hsource]) (by rw [hsource]; omega) (by simp), hseq]
    rfl

/-- Settles O57, by induction on the units behind the first start code. -/
theorem drainDecodesAWholeStream : Obligations.DrainDecodesAWholeStream := by
  unfold Obligations.DrainDecodesAWholeStream
  intro us hus
  exact drain_reset us fun u hu =>
    have ⟨hk, hne, hcode, hend⟩ := hus u hu
    ⟨hk, hne, hcode, hend⟩

end Sys2Proof.Machine
end

section
/-! SUPPORT. Further facts about the shared operations, the rows and the step, each said once: the fields terminal entry leaves
alone, what a HDR row is, which command word a CMD row has, and what every step keeps (spec 30_encoding.md R73, R80;
60_exceptions.md R205, R208). -/

namespace Sys2Proof.Machine

section

variable (sig : Signal) (s : State)

@[simp] theorem State.enterTerminal_foundFirst : (s.enterTerminal sig).foundFirst = s.foundFirst := by cases sig <;> rfl
@[simp] theorem State.enterTerminal_slice : (s.enterTerminal sig).slice = s.slice := by cases sig <;> rfl
@[simp] theorem State.enterTerminal_seq : (s.enterTerminal sig).seq = s.seq := by cases sig <;> rfl
@[simp] theorem State.enterTerminal_busy : (s.enterTerminal sig).busy = false := by cases sig <;> rfl
@[simp] theorem State.enterTerminal_pos : (s.enterTerminal sig).pos = s.pos := by cases sig <;> rfl
@[simp] theorem State.enterTerminal_event : (s.enterTerminal sig).event = none := by cases sig <;> rfl
@[simp] theorem State.enterTerminal_source : (s.enterTerminal sig).source = s.source := by cases sig <;> rfl
@[simp] theorem State.enterTerminal_past : (s.enterTerminal sig).past = s.past := by cases sig <;> rfl

end

/-! ## Header rows and commands -/

/-- Whether a non-empty slice waits on the wire inside a request. -/
theorem State.waitingHeader_cases (s : State) :
    s.waitingHeader = none ∨
    (s.reading = true ∧
      ((∃ h p, s.event = some (.slice (h :: p))) ∨ (∃ h p, s.event = some (.last (h :: p))))) := by
  cases hw : s.waitingHeader with
  | none => exact .inl rfl
  | some h =>
    obtain ⟨hr, ⟨p, he, _⟩ | ⟨p, he, _⟩⟩ := step_header_change hw
    · exact .inr ⟨hr, .inl ⟨h, p, he⟩⟩
    · exact .inr ⟨hr, .inr ⟨h, p, he⟩⟩

/-- Where no header byte waits there is nothing to decode. -/
theorem State.no_waiting_slice {s : State} (hw : s.waitingHeader = none) (hr : s.reading = true) (h : Byte) (p : List Byte) :
    s.event ≠ some (.slice (h :: p)) ∧ s.event ≠ some (.last (h :: p)) := by
  constructor <;> intro he <;> simp [State.waitingHeader, hr, he, eventHeader, eventSlice] at hw

theorem deliverRow_idle {s : State} (hw : s.waitingHeader = none) (t : BitVec 5) (f : Bool) (nri : BitVec 2) :
    deliverRow t f nri s = s := by
  unfold deliverRow
  split
  next hr =>
    split
    next he => exact absurd he (State.no_waiting_slice hw hr _ _).1
    next he => exact absurd he (State.no_waiting_slice hw hr _ _).2
    next => rfl
  next => rfl

theorem filterRow_idle {s : State} (hw : s.waitingHeader = none) : filterRow s = s := by
  unfold filterRow
  split
  next hr =>
    split
    next he => exact absurd he (State.no_waiting_slice hw hr _ _).1
    next he => exact absurd he (State.no_waiting_slice hw hr _ _).2
    next => rfl
  next => rfl

/-- A HDR row is the SEI row or a delivery row (R73). -/
theorem exec_hdr {i : Instr} (hi : i.format = .hdr) :
    (∀ s, exec i s = .next (filterRow s)) ∨ ∃ t f nri, ∀ s, exec i s = .next (deliverRow t f nri s) := by
  cases i <;> cases hi
  case nalType6 => exact .inl fun _ => rfl
  all_goals exact .inr ⟨_, _, _, fun _ => rfl⟩

/-- A CMD row is what its command word decodes to (R80). -/
theorem exists_decodeCommand {i : Instr} (hi : i.format = .cmd) : ∃ w, decodeCommand w = i := by
  cases i <;> cases hi
  case nop => exact ⟨0b00#2, rfl⟩
  case nextUnit => exact ⟨0b01#2, rfl⟩
  case reset => exact ⟨0b10#2, rfl⟩
  case cmdReserved => exact ⟨0b11#2, rfl⟩

/-! ## Steps -/

/-- With nothing on the wire a step is a move of the environment, a command or an enabled busy step: what these three keep, every
step keeps. -/
theorem step_keeps {P : State → Prop}
    (moved : ∀ (s : State) (rest : List Input) (ws : List SrcWord), P s → P { s with inputs := rest, source := ws })
    (command : ∀ (s t : State) (w : BitVec 2), P s → exec (decodeCommand w) s = .next t → P t)
    (read : ∀ s t : State, P s → s.reading = true → ReadChange s t → P t)
    {s t : State} (h : P s) (hwire : s.event = none) (hs : step s = .next t) : P t := by
  rcases step_change (State.waitingHeader_of_event_none hwire) hs with
    ⟨w, rest, _, hc⟩ | ⟨ws, rest, _, rfl⟩ | ⟨rest, _, rfl | ⟨hr, _, hc⟩⟩
  · exact command _ t w (moved s rest s.source h) hc
  · exact moved s rest ws h
  · exact moved s rest s.source h
  · exact read _ t (moved s rest s.source h) hr hc

end Sys2Proof.Machine
end

section
/-! SUPPORT. The state invariants of spec 10_state.md R35: what each operation needs to keep them, then every step. -/

namespace Sys2Proof.Machine

theorem State.terminal_eq_false (s : State) :
    s.terminal = false ↔ s.dstate ≠ .exhausted ∧ s.dstate ≠ .errored ∧ s.dstate ≠ .failed := by
  cases h : s.dstate <;> simp [State.terminal, h]

section

variable {s : State}

theorem CoreInv.srcRead (h : CoreInv s) : CoreInv s.srcRead :=
  have ⟨hseek, hstreaming, herrored, hbusy, hseq, hfail, hunit, _⟩ := h
  ⟨hseek, hstreaming, herrored, hbusy, hseq, hfail, hunit, rfl⟩

theorem CoreInv.raiseFault (h : CoreInv s) (r : FaultReason) : CoreInv (s.raiseFault r) := h

theorem CoreInv.emit (h : CoreInv s) (r : Response) : CoreInv (s.emit r) := h

/-- While a request is outstanding the state is not terminal (R35 (I4)). -/
theorem CoreInv.not_terminal (h : CoreInv s) (hr : s.reading = true) : s.terminal = false :=
  have ⟨_, _, _, hbusy, _⟩ := h
  (hbusy ((State.reading_iff s).1 hr).1).1

/-- RESET and construction start over (R34). -/
theorem CoreInv.construct (s : State) : CoreInv s.construct := by
  simp [CoreInv, State.construct, State.reset]

/-- A request may be accepted where (I4) allows one. -/
theorem CoreInv.acceptRequest (h : CoreInv s) (hterm : s.terminal = false) (heof : s.eofSeen = false) :
    CoreInv { s with busy := true } :=
  have ⟨hseek, hstreaming, herrored, _, hseq, hfail, hunit, hevent⟩ := h
  ⟨hseek, hstreaming, herrored, fun _ => ⟨hterm, heof⟩, hseq, hfail, hunit, hevent⟩

/-- The slice may change in phase IN_UNIT. -/
theorem CoreInv.setSlice (h : CoreInv s) (hff : s.foundFirst = true) (l : List Byte) (z : Nat) :
    CoreInv { s with slice := l, zrun := z } := by
  obtain ⟨_, hstreaming, herrored, hbusy, hseq, hfail, _, hevent⟩ := h
  exact ⟨fun hc => absurd (hff.symm.trans hc) (by decide), hstreaming, herrored, hbusy, hseq, hfail, fun _ => hff, hevent⟩

/-- The first start code opens phase IN_UNIT with an empty slice, and no outstanding request is in ERRORED. -/
theorem CoreInv.firstStart (h : CoreInv s) (hterm : s.terminal = false) : CoreInv (scanFirstStart s) := by
  obtain ⟨_, _, _, hbusy, hseq, hfail, _, hevent⟩ := h
  have ⟨_, herr, _⟩ := (State.terminal_eq_false s).1 hterm
  exact ⟨nofun, nofun, fun hc => absurd hc herr, hbusy, hseq, hfail, fun _ => rfl, hevent⟩

/-- A terminal signal is taken from a state that is not terminal, NOT_A_STREAM before the first start code only (I3). -/
theorem CoreInv.enterTerminal (h : CoreInv s) (hterm : s.terminal = false) {sig : Signal}
    (hsig : sig = .notAStream → s.foundFirst = false) : CoreInv (s.enterTerminal sig) := by
  obtain ⟨hseek, _, _, _, _, hfail, hunit, _⟩ := h
  have hcode : s.failCode = none := by
    have ⟨_, _, hnf⟩ := (State.terminal_eq_false s).1 hterm
    by_contra hc
    exact hnf (hfail.1 hc)
  cases sig with
  | endOfStream =>
    rw [State.enterTerminal_endOfStream]
    exact ⟨hseek, nofun, nofun, nofun, nofun, by simp [hcode], hunit, rfl⟩
  | notAStream =>
    rw [State.enterTerminal_notAStream]
    exact ⟨hseek, nofun, fun _ => hsig rfl, nofun, nofun, by simp [hcode], hunit, rfl⟩
  | sourceReadFailure e =>
    rw [State.enterTerminal_sourceReadFailure]
    exact ⟨hseek, nofun, nofun, nofun, nofun, by simp, hunit, rfl⟩

/-- A delivery from a state in phase IN_UNIT that is not terminal leaves STREAMING with at least one unit given (I5). -/
theorem CoreInv.delivered (h : CoreInv s) (hterm : s.terminal = false) (hff : s.foundFirst = true) (out : List Response)
    (eof : Bool) :
    CoreInv { s with out := out, seq := s.seq + 1, dstate := .streaming, eofSeen := eof, busy := false } := by
  obtain ⟨hseek, _, _, _, _, hfail, hunit, hevent⟩ := h
  have ⟨_, _, hnf⟩ := (State.terminal_eq_false s).1 hterm
  have hcode : ¬ s.failCode ≠ none := fun hc => hnf (hfail.1 hc)
  exact ⟨hseek, fun hc => absurd (hff.symm.trans hc) (by decide), nofun, nofun, fun _ => by simp, ⟨fun hc => absurd hc hcode, nofun⟩,
    hunit, hevent⟩

end

/-- Every enabled busy step keeps the invariants. -/
theorem CoreInv.readChange {s t : State} (h : CoreInv s) (hr : s.reading = true) (hc : ReadChange s t) : CoreInv t := by
  have hread := h.srcRead
  have hterm : s.srcRead.terminal = false := h.not_terminal hr
  cases hc with
  | fault r => exact hread.raiseFault r
  | zero => exact hread
  | firstStart _ _ => exact hread.firstStart hterm
  | notAStream hff => exact hread.enterTerminal hterm fun _ => hff
  | empty _ _ => exact hread.enterTerminal hterm nofun
  | fail e => exact hread.enterTerminal hterm nofun
  | payload b hff _ _ _ => exact hread.setSlice hff _ _
  | skip hff _ => exact hread.setSlice hff _ _
  | deliver g p hff _ _ _ _ => exact (hread.setSlice hff [] 0).delivered hterm hff _ _
  | lastEnds hff _ => exact (hread.setSlice hff [] 0).enterTerminal hterm nofun
  | lastDelivered g p hff _ _ _ _ => exact (hread.setSlice hff [] 0).delivered hterm hff _ _

/-- Every command keeps the invariants. -/
theorem CoreInv.command {s t : State} {w : BitVec 2} (h : CoreInv s) (hs : exec (decodeCommand w) s = .next t) : CoreInv t := by
  rcases exec_cmd_change hs with rfl | ⟨_, rfl⟩ | ⟨_, ⟨_, _, rfl⟩ | ⟨_, rfl⟩ | ⟨_, _, hterm, heof, rfl⟩ |
    ⟨_, _, hterm, _, rfl⟩ | ⟨_, _, _, rfl⟩ | ⟨_, _, _, rfl⟩ | ⟨_, _, _, rfl⟩⟩
  · exact h
  · exact CoreInv.construct s
  · exact h.raiseFault _
  · exact h.raiseFault _
  · exact h.acceptRequest hterm heof
  · exact h.enterTerminal hterm nofun
  · exact h.emit _
  · exact h.emit _
  · exact h.emit _

/-- Settles O49: moves of the environment, commands and busy steps all keep the invariants, and these leave nothing on the wire. -/
theorem stepKeepsTheCoreInvariants : Obligations.StepKeepsTheCoreInvariants := by
  unfold Obligations.StepKeepsTheCoreInvariants
  intro s t h hs
  have ⟨_, _, _, _, _, _, _, hwire⟩ := h
  exact step_keeps (fun _ _ _ h => h) (fun _ _ _ => CoreInv.command) (fun _ _ => CoreInv.readChange) h hwire hs

end Sys2Proof.Machine
end

section
/-! SUPPORT. A build that saturates zrun (spec 10_state.md R23; 92_eei_decisions.md D20): saturation commutes with every operation
that leaves the zero count alone, and the rules that read or write the count cannot tell. -/

namespace Sys2Proof.Machine

/-! ## Saturation as one update -/

/-- The count at which a build saturates zrun: 2 in phase SEEK_FIRST, MAX_NAL_BYTES + 1 in phase IN_UNIT when that is finite (D20). -/
def State.zrunLimit (s : State) : Option Nat :=
  if s.foundFirst then s.cfg.maxNalBytes.map (· + 1) else some 2

/-- The zero count as a saturating build holds it. -/
def State.saturatedZrun (s : State) : Nat := s.zrunLimit.elim s.zrun (min s.zrun)

theorem State.saturated_eq (s : State) : s.saturated = { s with zrun := s.saturatedZrun } := by
  unfold State.saturated
  split
  next hff => rw [show s.saturatedZrun = min s.zrun 2 by simp [State.saturatedZrun, State.zrunLimit, hff]]
  next cap hff hcap => rw [show s.saturatedZrun = min s.zrun (cap + 1) by simp [State.saturatedZrun, State.zrunLimit, hff, hcap]]
  next hff hcap => rw [show s.saturatedZrun = s.zrun by simp [State.saturatedZrun, State.zrunLimit, hff, hcap]]

section

variable (s : State)

@[simp] theorem State.saturated_dstate : s.saturated.dstate = s.dstate := by rw [State.saturated_eq]
@[simp] theorem State.saturated_foundFirst : s.saturated.foundFirst = s.foundFirst := by rw [State.saturated_eq]
@[simp] theorem State.saturated_slice : s.saturated.slice = s.slice := by rw [State.saturated_eq]
@[simp] theorem State.saturated_seq : s.saturated.seq = s.seq := by rw [State.saturated_eq]
@[simp] theorem State.saturated_eofSeen : s.saturated.eofSeen = s.eofSeen := by rw [State.saturated_eq]
@[simp] theorem State.saturated_failCode : s.saturated.failCode = s.failCode := by rw [State.saturated_eq]
@[simp] theorem State.saturated_busy : s.saturated.busy = s.busy := by rw [State.saturated_eq]
@[simp] theorem State.saturated_fault : s.saturated.fault = s.fault := by rw [State.saturated_eq]
@[simp] theorem State.saturated_out : s.saturated.out = s.out := by rw [State.saturated_eq]
@[simp] theorem State.saturated_cfg : s.saturated.cfg = s.cfg := by rw [State.saturated_eq]
@[simp] theorem State.saturated_event : s.saturated.event = s.event := by rw [State.saturated_eq]
@[simp] theorem State.saturated_source : s.saturated.source = s.source := by rw [State.saturated_eq]
@[simp] theorem State.saturated_inputs : s.saturated.inputs = s.inputs := by rw [State.saturated_eq]
@[simp] theorem State.saturated_zrun : s.saturated.zrun = s.saturatedZrun := by rw [State.saturated_eq]
@[simp] theorem State.saturated_zrunLimit : s.saturated.zrunLimit = s.zrunLimit := by rw [State.saturated_eq]; rfl
@[simp] theorem State.saturated_live : s.saturated.live = s.live := by rw [State.saturated_eq]; rfl
@[simp] theorem State.saturated_reading : s.saturated.reading = s.reading := by rw [State.saturated_eq]; rfl
@[simp] theorem State.saturated_seekFirst : s.saturated.seekFirst = s.seekFirst := by rw [State.saturated_eq]; rfl
@[simp] theorem State.saturated_inUnit : s.saturated.inUnit = s.inUnit := by rw [State.saturated_eq]; rfl
@[simp] theorem State.saturated_failValue : s.saturated.failValue = s.failValue := by rw [State.saturated_eq]; rfl
@[simp] theorem State.saturated_seqFull : s.saturated.seqFull = s.seqFull := by rw [State.saturated_eq]; rfl
@[simp] theorem State.saturated_fits (n : Nat) : s.saturated.fits n = s.fits n := by rw [State.saturated_eq]; rfl
@[simp] theorem State.saturated_waitingHeader : s.saturated.waitingHeader = s.waitingHeader := by rw [State.saturated_eq]; rfl

end

/-! ## What the rules can tell of the count -/

section

variable (s : State)

/-- A count below the limit is held as it is. -/
theorem State.saturated_eq_self (h : ∀ n ∈ s.zrunLimit, s.zrun ≤ n) : s.saturated = s := by
  have hz : s.saturatedZrun = s.zrun := by
    unfold State.saturatedZrun
    cases hl : s.zrunLimit with
    | none => rfl
    | some n => exact Nat.min_eq_left (h n hl)
  rw [State.saturated_eq, hz]

@[simp] theorem State.saturated_saturated : s.saturated.saturated = s.saturated := by
  refine s.saturated.saturated_eq_self fun n hn => ?_
  rw [State.saturated_zrunLimit, Option.mem_def] at hn
  simp [State.saturatedZrun, hn]

/-- In a build R7 admits the limit is at least 2, the count that lets a 0x01 complete a start code. -/
theorem State.two_le_zrunLimit (hv : s.cfg.valid = true) : ∀ n ∈ s.zrunLimit, 2 ≤ n := by
  unfold State.zrunLimit
  unfold Config.valid at hv
  cases s.foundFirst
  · simp
  · cases hc : s.cfg.maxNalBytes
    · simp
    · simp [hc] at hv ⊢; omega

/-- Where saturation changes the count, it is at least 2 before and after. -/
theorem State.saturatedZrun_cases (hv : s.cfg.valid = true) :
    s.saturatedZrun = s.zrun ∨ (2 ≤ s.saturatedZrun ∧ 2 ≤ s.zrun) := by
  have hlim := s.two_le_zrunLimit hv
  unfold State.saturatedZrun
  cases hl : s.zrunLimit with
  | none => exact .inl rfl
  | some n => have := hlim n hl; simp; omega

@[simp] theorem State.saturatedZrun_ready (hv : s.cfg.valid = true) : 2 ≤ s.saturatedZrun ↔ 2 ≤ s.zrun := by
  have := s.saturatedZrun_cases hv; omega

@[simp] theorem State.saturatedZrun_eq_zero (hv : s.cfg.valid = true) : s.saturatedZrun = 0 ↔ s.zrun = 0 := by
  have := s.saturatedZrun_cases hv; omega

/-- In phase IN_UNIT a count beyond the limit fits no slice buffer, and a count up to it is held as it is (R120). -/
theorem State.fits_saturatedZrun (hff : s.foundFirst = true) (k : Nat) :
    s.fits (s.saturatedZrun + k) = s.fits (s.zrun + k) := by
  rw [Bool.eq_iff_iff, State.fits_iff, State.fits_iff]
  unfold State.saturatedZrun State.zrunLimit
  cases s.cfg.maxNalBytes with
  | none => simp
  | some cap => simp [hff]; omega

/-- In phase IN_UNIT a count that fits the slice buffer is not saturated (R120). -/
theorem State.saturated_of_fits (hff : s.foundFirst = true) {k : Nat} (h : s.fits (s.zrun + k) = true) : s.saturated = s := by
  refine s.saturated_eq_self fun n hn => ?_
  rw [State.fits_iff] at h
  simp only [State.zrunLimit, hff, if_true, Option.map_eq_some_iff, Option.mem_def] at hn
  obtain ⟨cap, hcap, rfl⟩ := hn
  have := h cap hcap
  omega

end

/-! ## Operations that leave the count alone -/

section

variable (s : State)

@[simp] theorem State.srcRead_saturated : s.saturated.srcRead = s.srcRead.saturated := by
  rw [State.saturated_eq s, State.saturated_eq s.srcRead]; rfl

@[simp] theorem State.raiseFault_saturated (r : FaultReason) : s.saturated.raiseFault r = (s.raiseFault r).saturated := by
  rw [State.saturated_eq s, State.saturated_eq (s.raiseFault r)]; rfl

@[simp] theorem State.emit_saturated (r : Response) : s.saturated.emit r = (s.emit r).saturated := by
  rw [State.saturated_eq s, State.saturated_eq (s.emit r)]; rfl

@[simp] theorem State.skipSlice_saturated : s.saturated.skipSlice = s.skipSlice.saturated := by
  rw [State.saturated_eq s, State.saturated_eq s.skipSlice]; rfl

@[simp] theorem State.enterTerminal_saturated (sig : Signal) : s.saturated.enterTerminal sig = (s.enterTerminal sig).saturated := by
  rw [State.saturated_eq s, State.saturated_eq (s.enterTerminal sig)]
  cases sig <;> rfl

@[simp] theorem State.deliver_saturated (h : Byte) (last : Bool) : s.saturated.deliver h last = (s.deliver h last).saturated := by
  cases hq : s.seqFull
  · rw [State.deliver_of_room (by simpa using hq), State.deliver_of_room hq, State.saturated_eq s, State.saturated_eq]; rfl
  · rw [State.deliver_of_full (by simpa using hq), State.deliver_of_full hq, State.raiseFault_saturated]

/-- Accepting a request does not look at the count. -/
theorem State.acceptRequest_saturated : { s.saturated with busy := true } = ({ s with busy := true } : State).saturated := by
  rw [State.saturated_eq s, State.saturated_eq]; rfl

theorem State.takeInput_saturated (rest : List Input) :
    { s.saturated with inputs := rest } = ({ s with inputs := rest } : State).saturated := by
  rw [State.saturated_eq s, State.saturated_eq]; rfl

theorem State.rebind_saturated (rest : List Input) (ws : List SrcWord) :
    { s.saturated with inputs := rest, source := ws } = ({ s with inputs := rest, source := ws } : State).saturated := by
  rw [State.saturated_eq s, State.saturated_eq]; rfl

@[simp] theorem State.construct_saturated : s.saturated.construct = s.construct := by
  rw [State.saturated_eq s]; rfl

@[simp] theorem deliverRow_saturated (t : BitVec 5) (f : Bool) (nri : BitVec 2) :
    deliverRow t f nri s.saturated = (deliverRow t f nri s).saturated := by
  rcases s.waitingHeader_cases with hw | ⟨hr, ⟨h, p, he⟩ | ⟨h, p, he⟩⟩
  · rw [deliverRow_idle hw, deliverRow_idle (by simpa using hw)]
  · rw [deliverRow_slice hr he, deliverRow_slice (by simpa using hr) (by simpa using he), State.deliver_saturated]
  · rw [deliverRow_last hr he, deliverRow_last (by simpa using hr) (by simpa using he), State.deliver_saturated]

@[simp] theorem filterRow_saturated : filterRow s.saturated = (filterRow s).saturated := by
  rcases s.waitingHeader_cases with hw | ⟨hr, ⟨h, p, he⟩ | ⟨h, p, he⟩⟩
  · rw [filterRow_idle hw, filterRow_idle (by simpa using hw)]
  · rw [filterRow_slice hr he, filterRow_slice (by simpa using hr) (by simpa using he), State.skipSlice_saturated]
  · rw [filterRow_last hr he, filterRow_last (by simpa using hr) (by simpa using he), State.enterTerminal_saturated]

/-- The Decoder's reaction does not look at the count. -/
theorem react_saturated : react s.saturated = mapNext State.saturated (react s) := by
  have header (h : Byte) : execHeader h s.saturated = mapNext State.saturated (execHeader h s) := by
    rw [execHeader_eq, execHeader_eq]
    cases isSei h <;> simp [mapNext]
  unfold react
  rw [State.saturated_event]
  cases s.event with
  | none => rfl
  | some ev =>
    cases ev with
    | slice l =>
      cases l with
      | nil => simp [mapNext]
      | cons h p => exact header h
    | last l =>
      cases l with
      | nil => simp [mapNext]
      | cons h p => exact header h
    | empty => simp [mapNext]
    | notAStream => simp [mapNext]
    | fail e => simp [mapNext]

end

/-! ## The rules of the Scanner -/

/-- A rule whose next state a saturating build tells apart by the zero count alone. -/
def ZrunBlind (rule : State → State) (s : State) : Prop := (rule s.saturated).saturated = (rule s).saturated

section

variable (s : State)

/-- Counting one zero more before or after saturation gives the same saturated count (D20). -/
theorem scanZero_saturatedZrun : (scanZero s.saturated).saturatedZrun = (scanZero s).saturatedZrun := by
  have hlim : (scanZero s.saturated).zrunLimit = (scanZero s).zrunLimit := s.saturated_zrunLimit
  have hs : s.zrunLimit = (scanZero s).zrunLimit := rfl
  simp only [State.saturatedZrun, hlim, hs, scanZero_zrun, State.saturated_zrun]
  cases (scanZero s).zrunLimit with
  | none => rfl
  | some n => simp; omega

theorem scanZero_blind : ZrunBlind scanZero s := by
  unfold ZrunBlind
  rw [State.saturated_eq (scanZero s.saturated), State.saturated_eq (scanZero s), scanZero_saturatedZrun, State.saturated_eq s]
  rfl

theorem scanFirstStart_blind : ZrunBlind scanFirstStart s := by
  unfold ZrunBlind
  rw [State.saturated_eq s]; rfl

theorem scanDelimiter_blind : ZrunBlind scanDelimiter s := by
  unfold ZrunBlind
  rw [State.saturated_eq s]; rfl

theorem scanEvent_saturated (ev : ScanEvent) :
    { s.saturated with event := some ev } = ({ s with event := some ev } : State).saturated := by
  rw [State.saturated_eq s, State.saturated_eq]; rfl

theorem scanNotAStream_blind : ZrunBlind scanNotAStream s := by
  unfold ZrunBlind scanNotAStream
  rw [scanEvent_saturated, State.saturated_saturated]

theorem scanEmpty_blind : ZrunBlind scanEmpty s := by
  unfold ZrunBlind scanEmpty
  rw [scanEvent_saturated, State.saturated_saturated]

theorem scanFail_blind (e : SrcErr) : ZrunBlind (scanFail e) s := by
  unfold ZrunBlind scanFail
  rw [scanEvent_saturated, State.saturated_saturated]

theorem scanPayload_blind (hff : s.foundFirst = true) (b : Byte) : ZrunBlind (scanPayload b) s := by
  unfold ZrunBlind
  cases h : s.fits (s.zrun + 1)
  · have hsat : s.saturated.fits (s.saturated.zrun + 1) = false := by simpa [s.fits_saturatedZrun hff] using h
    rw [scanPayload_of_full h, scanPayload_of_full hsat, State.raiseFault_saturated, State.saturated_saturated]
  · rw [s.saturated_of_fits hff h]

theorem scanLast_blind (hff : s.foundFirst = true) : ZrunBlind scanLast s := by
  unfold ZrunBlind
  cases h : s.fits s.zrun
  · have hsat : s.saturated.fits s.saturated.zrun = false := by
      rw [State.saturated_fits, State.saturated_zrun]
      exact (s.fits_saturatedZrun hff 0).trans h
    rw [scanLast_of_full h, scanLast_of_full hsat, State.raiseFault_saturated, State.saturated_saturated]
  · rw [s.saturated_of_fits (k := 0) hff h]

end

/-! ## Rows and steps -/

/-- A busy step whose condition and rule cannot tell the saturated count from the exact one cannot either. -/
theorem busyStep_saturated {selected : State → Bool} {rule : State → State} {s : State}
    (hsel : selected s.saturated = selected s) (hrule : selected s = true → ZrunBlind rule s.srcRead) :
    mapNext State.saturated (busyStep selected rule s.saturated) = mapNext State.saturated (busyStep selected rule s) := by
  have henS : (s.saturated.reading && selected s.saturated) = (s.reading && selected s) := by rw [State.saturated_reading, hsel]
  cases hen : s.reading && selected s
  · rw [busyStep_disabled hen, busyStep_disabled (henS.trans hen)]
    simp [mapNext]
  · have hblind : (rule s.saturated.srcRead).saturated = (rule s.srcRead).saturated := by
      rw [State.srcRead_saturated]
      exact hrule (Bool.and_eq_true_iff.1 hen).2
    have hfault : (rule s.saturated.srcRead).fault = (rule s.srcRead).fault := by
      simpa using congrArg State.fault hblind
    cases hf : (rule s.srcRead).fault with
    | some r =>
      rw [busyStep_ruleFault hen hf, busyStep_ruleFault (henS.trans hen) (hfault.trans hf)]
      simp [mapNext]
    | none =>
      obtain ⟨t, ht⟩ := react_next (rule s.srcRead)
      obtain ⟨u, hu⟩ := react_next (rule s.saturated.srcRead)
      have hut : u.saturated = t.saturated := by
        have := (react_saturated (rule s.saturated.srcRead)).symm.trans
          ((congrArg react hblind).trans (react_saturated (rule s.srcRead)))
        rw [ht, hu] at this
        simpa [mapNext] using this
      have huf : u.fault = t.fault := by simpa using congrArg State.fault hut
      cases hft : t.fault with
      | some r =>
        rw [busyStep_reactFault hen hf ht hft, busyStep_reactFault (henS.trans hen) (hfault.trans hf) hu (huf.trans hft)]
        simp [mapNext]
      | none =>
        rw [busyStep_done hen hf ht hft, busyStep_done (henS.trans hen) (hfault.trans hf) hu (huf.trans hft)]
        simp [mapNext, hut]

section

variable {s : State} (hv : s.cfg.valid = true)
include hv

theorem State.saturated_zerosReady : s.saturated.zerosReady = s.zerosReady := by
  simp [State.zerosReady, hv]

/-- A SRC row cannot tell the saturated count from the exact one. -/
theorem exec_src_saturated {i : Instr} (hi : i.format = .src) :
    mapNext State.saturated (exec i s.saturated) = mapNext State.saturated (exec i s) := by
  have zero {ph : State → Bool} (hsel : ph s.saturated = ph s) := busyStep_saturated hsel fun _ => scanZero_blind s.srcRead
  have notAStream {ph : State → Bool} (hsel : ph s.saturated = ph s) :=
    busyStep_saturated hsel fun _ => scanNotAStream_blind s.srcRead
  have fail {ph : State → Bool} (e : SrcErr) (hsel : ph s.saturated = ph s) :=
    busyStep_saturated hsel fun _ => scanFail_blind s.srcRead e
  have payload (b : Byte) := busyStep_saturated (rule := scanPayload b) s.saturated_inUnit
    fun hff => scanPayload_blind s.srcRead hff b
  have hready := State.saturated_zerosReady hv
  cases i <;> cases hi
  case byteZeroSeekFirst => exact zero s.saturated_seekFirst
  case byteZeroInUnit => exact zero s.saturated_inUnit
  case byteOneSeekFirstStart =>
    exact busyStep_saturated (selected := fun s => s.seekFirst && s.zerosReady) (by simp [hready])
      fun _ => scanFirstStart_blind s.srcRead
  case byteOneSeekFirstNas => exact notAStream (ph := fun s => s.seekFirst && !s.zerosReady) (by simp [hready])
  case byteOneInUnitDelim =>
    exact busyStep_saturated (selected := fun s => s.inUnit && s.zerosReady) (by simp [hready])
      fun _ => scanDelimiter_blind s.srcRead
  case byteOneInUnitPayload =>
    exact busyStep_saturated (selected := fun s => s.inUnit && !s.zerosReady) (by simp [hready])
      fun hsel => scanPayload_blind s.srcRead (Bool.and_eq_true_iff.1 hsel).1 0x01#8
  case byteOtherSeekFirst02 => exact notAStream s.saturated_seekFirst
  case byteOtherSeekFirst04 => exact notAStream s.saturated_seekFirst
  case byteOtherSeekFirst08 => exact notAStream s.saturated_seekFirst
  case byteOtherSeekFirst10 => exact notAStream s.saturated_seekFirst
  case byteOtherSeekFirst20 => exact notAStream s.saturated_seekFirst
  case byteOtherSeekFirst40 => exact notAStream s.saturated_seekFirst
  case byteOtherSeekFirst80 => exact notAStream s.saturated_seekFirst
  case byteOtherInUnit02 => exact payload _
  case byteOtherInUnit04 => exact payload _
  case byteOtherInUnit08 => exact payload _
  case byteOtherInUnit10 => exact payload _
  case byteOtherInUnit20 => exact payload _
  case byteOtherInUnit40 => exact payload _
  case byteOtherInUnit80 => exact payload _
  case eofSeekFirstEmpty =>
    exact busyStep_saturated (selected := fun s => s.seekFirst && decide (s.zrun = 0)) (by simp [hv])
      fun _ => scanEmpty_blind s.srcRead
  case eofSeekFirstNas =>
    exact notAStream (ph := fun s => s.seekFirst && decide (0 < s.zrun)) (by simp [hv, Nat.pos_iff_ne_zero])
  case eofInUnit => exact busyStep_saturated s.saturated_inUnit fun hff => scanLast_blind s.srcRead hff
  case failSeekFirst e => exact fail e s.saturated_seekFirst
  case failInUnit e => exact fail e s.saturated_inUnit
  case srcReserved =>
    simp only [exec, execSrcReserved, State.saturated_reading, State.srcRead_saturated, State.raiseFault_saturated]
    cases s.reading <;> simp [mapNext]

/-- A source word selects the same row with the saturated count (R121). -/
theorem decodeSource_saturatedZrun (w : SrcWord) :
    decodeSource s.cfg s.foundFirst s.saturatedZrun w = decodeSource s.cfg s.foundFirst s.zrun w := by
  have hready := s.saturatedZrun_ready hv
  have hzero := s.saturatedZrun_eq_zero hv
  unfold decodeSource symbolRow byteRow
  simp only [hready, hzero]

end

/-- No CMD row looks at the count. -/
theorem exec_cmd_saturated {i : Instr} (hi : i.format = .cmd) (s : State) :
    mapNext State.saturated (exec i s.saturated) = mapNext State.saturated (exec i s) := by
  cases i <;> cases hi
  case nop => simp [exec, execNop, mapNext]
  case nextUnit =>
    change mapNext _ (execNextUnit _) = mapNext _ (execNextUnit _)
    unfold execNextUnit
    rw [State.acceptRequest_saturated]
    simp only [State.saturated_live, State.saturated_busy, State.saturated_dstate, State.saturated_eofSeen]
    cases s.live
    · simp [mapNext]
    · cases s.busy
      · cases s.dstate
        case beforeFirstUnit => cases s.eofSeen <;> simp [mapNext]
        case streaming => cases s.eofSeen <;> simp [mapNext]
        all_goals simp [mapNext]
      · simp [mapNext]
  case reset => simp [exec, execReset]
  case cmdReserved =>
    simp only [exec, execCmdReserved, State.saturated_live, State.raiseFault_saturated]
    cases s.live <;> simp [mapNext]

/-- No RSP row looks at the count. -/
theorem exec_rsp_saturated {i : Instr} (hi : i.format = .rsp) (s : State) :
    mapNext State.saturated (exec i s.saturated) = mapNext State.saturated (exec i s) := by
  have emit (r : State → Response) (hr : r s.saturated = r s) :
      mapNext State.saturated (if s.saturated.live then .next (s.saturated.emit (r s.saturated)) else .next s.saturated) =
        mapNext State.saturated (if s.live then .next (s.emit (r s)) else .next s) := by
    rw [State.saturated_live, hr]
    cases s.live <;> simp [mapNext]
  cases i <;> cases hi
  case rspUnit info => exact emit (fun s => .unit (unitOf info (eventSlice s.event).tail s.seq)) (by simp)
  case rspEndOfStream => exact emit (fun _ => .endOfStream) rfl
  case rspNotAStream => exact emit (fun _ => .notAStream) rfl
  case rspSourceReadFailure info => exact emit (fun s => .sourceReadFailure (withFailInfo s.failValue info)) (by simp)

/-- No row can tell the saturated count from the exact one. -/
theorem exec_saturated (i : Instr) {s : State} (hv : s.cfg.valid = true) :
    mapNext State.saturated (exec i s.saturated) = mapNext State.saturated (exec i s) := by
  cases hi : i.format with
  | hdr =>
    obtain hrow | ⟨t, f, nri, hrow⟩ := exec_hdr hi <;> rw [hrow, hrow] <;> simp [mapNext]
  | cmd => exact exec_cmd_saturated hi s
  | src => exact exec_src_saturated hv hi
  | rsp => exact exec_rsp_saturated hi s

/-- Fetching takes the same row with the saturated count. -/
theorem fetch_saturated {s : State} (hv : s.cfg.valid = true) :
    fetch s.saturated = ((fetch s).1, (fetch s).2.saturated) := by
  have symbol {u : State} (hu : u.cfg.valid = true) :
      fetchSymbol u.saturated = ((fetchSymbol u).1, (fetchSymbol u).2.saturated) := by
    unfold fetchSymbol
    simp only [State.saturated_reading, State.saturated_source, State.saturated_cfg, State.saturated_foundFirst,
      State.saturated_zrun, decodeSource_saturatedZrun hu]
    cases u.reading
    · rfl
    · cases u.source <;> rfl
  unfold fetch
  rw [State.saturated_waitingHeader]
  cases s.waitingHeader with
  | some h => rfl
  | none =>
    unfold fetchPort
    rw [State.saturated_inputs]
    cases s.inputs with
    | nil => exact symbol hv
    | cons i rest =>
      cases i with
      | command w => exact congrArg (Prod.mk _) (s.takeInput_saturated rest)
      | answer => exact (congrArg fetchSymbol (s.takeInput_saturated rest)).trans (symbol hv)
      | rebind ws => exact congrArg (Prod.mk _) (s.rebind_saturated rest ws)

theorem fetch_cfg (s : State) : (fetch s).2.cfg = s.cfg := by
  have symbol (u : State) : (fetchSymbol u).2.cfg = u.cfg := by
    rcases fetchSymbol_cases u with ⟨_, _, _, _, h⟩ | ⟨_, h⟩ <;> rw [h]
  rcases fetch_cases s with ⟨_, _, h⟩ | ⟨_, ⟨_, _, _, h⟩ | ⟨_, _, _, h⟩ | ⟨_, _, h⟩ | ⟨_, h⟩⟩ <;> rw [h]
  · exact symbol _
  · exact symbol _

/-- Settles O53: a step fetches the same row with the saturated count, and no row can tell. -/
theorem saturatedZeroCountIsUnobservable : Obligations.SaturatedZeroCountIsUnobservable := by
  unfold Obligations.SaturatedZeroCountIsUnobservable
  intro s hv
  unfold step
  rw [fetch_saturated hv]
  exact exec_saturated _ (by rwa [fetch_cfg])

end Sys2Proof.Machine
end

section
/-! SUPPORT. Responses and reads (spec 20_memory.md R51, R64; 10_state.md R37): what a row or a step can do to out, busy, source and
pos. -/

namespace Sys2Proof.Machine

/-! ## Answering a request -/

/-- From `s` to `t` the request stays as it is, or it is complete and exactly one response has been given (R64). -/
def Answers (s t : State) : Prop :=
  (t.out = s.out ∧ t.busy = s.busy) ∨ ((∃ r : Response, t.out = s.out ++ [r]) ∧ t.busy = false)

section

variable {s t : State}

/-- At most one response is appended. -/
theorem Answers.out (h : Answers s t) : t.out = s.out ∨ ∃ r : Response, t.out = s.out ++ [r] := by
  rcases h with ⟨hout, _⟩ | ⟨hout, _⟩
  · exact .inl hout
  · exact .inr hout

/-- The response takes the place of the outstanding request. -/
theorem Answers.count (h : Answers s t) (hb : s.busy = true) :
    t.out.length + t.busy.toNat = s.out.length + s.busy.toNat := by
  rcases h with ⟨hout, hbusy⟩ | ⟨⟨r, hout⟩, hbusy⟩
  · rw [hout, hbusy]
  · simp [hout, hbusy, hb]

end

theorem State.enterTerminal_answers (sig : Signal) (s : State) : Answers s (s.enterTerminal sig) := by
  refine .inr ⟨?_, s.enterTerminal_busy sig⟩
  cases sig <;> exact ⟨_, rfl⟩

theorem State.deliver_answers (h : Byte) (last : Bool) (s : State) : Answers s (s.deliver h last) := by
  rcases State.deliver_cases h last s with ⟨_, e⟩ | ⟨_, e⟩ <;> rw [e]
  · exact .inr ⟨⟨_, rfl⟩, rfl⟩
  · exact .inl ⟨rfl, rfl⟩

theorem ReadChange.answers {s t : State} (h : ReadChange s t) : Answers s t := by
  cases h with
  | fault r => exact .inl ⟨rfl, rfl⟩
  | zero => exact .inl ⟨rfl, rfl⟩
  | firstStart _ _ => exact .inl ⟨rfl, rfl⟩
  | notAStream _ => exact State.enterTerminal_answers _ _
  | empty _ _ => exact State.enterTerminal_answers _ _
  | fail e => exact State.enterTerminal_answers _ _
  | payload b _ _ _ _ => exact .inl ⟨rfl, rfl⟩
  | skip _ _ => exact .inl ⟨rfl, rfl⟩
  | deliver g p _ _ _ _ _ => exact .inr ⟨⟨_, rfl⟩, rfl⟩
  | lastEnds _ _ => exact State.enterTerminal_answers _ { s.srcRead with slice := [], zrun := 0 }
  | lastDelivered g p _ _ _ _ _ => exact .inr ⟨⟨_, rfl⟩, rfl⟩

/-- An enabled busy step reads one symbol (R51, R177) and is no RESET. -/
theorem ReadChange.reads {s t : State} (h : ReadChange s t) :
    t.source = s.source.tail ∧ t.pos = s.pos + 1 ∧ t.past = s.past := by
  cases h <;> simp

/-! ## Rows -/

/-- A HDR row run on its own has no effect, or ends the slice on the wire inside a request (R144 to R152). -/
theorem exec_hdr_change {i : Instr} {s t : State} (hi : i.format = .hdr) (hs : exec i s = .next t) :
    t = s ∨
    (s.reading = true ∧ (t = s.skipSlice ∨ t = s.enterTerminal .endOfStream ∨ ∃ h last, t = s.deliver h last)) := by
  rcases s.waitingHeader_cases with hw | ⟨hr, ⟨h, p, he⟩ | ⟨h, p, he⟩⟩ <;>
    obtain hrow | ⟨ty, f, nri, hrow⟩ := exec_hdr hi <;> rw [hrow] at hs <;> cases hs
  · exact .inl (filterRow_idle hw)
  · exact .inl (deliverRow_idle hw ty f nri)
  · exact .inr ⟨hr, .inl (filterRow_slice hr he)⟩
  · exact .inr ⟨hr, .inr (.inr ⟨_, _, deliverRow_slice hr he ty f nri⟩)⟩
  · exact .inr ⟨hr, .inr (.inl (filterRow_last hr he))⟩
  · exact .inr ⟨hr, .inr (.inr ⟨_, _, deliverRow_last hr he ty f nri⟩)⟩

/-- A RSP row run on its own has no effect, or emits one response (R64, R182). -/
theorem exec_rsp_change {i : Instr} {s t : State} (hi : i.format = .rsp) (hs : exec i s = .next t) :
    t = s ∨ ∃ r, t = s.emit r := by
  have emitted {r : Response} (hs : (if s.live then .next (s.emit r) else .next s : Result) = .next t) :
      t = s ∨ ∃ r, t = s.emit r := by
    cases hl : s.live <;> rw [hl] at hs <;> cases hs
    · exact .inl rfl
    · exact .inr ⟨r, rfl⟩
  cases i <;> cases hi
  case rspUnit info => exact emitted hs
  case rspEndOfStream => exact emitted hs
  case rspNotAStream => exact emitted hs
  case rspSourceReadFailure info => exact emitted hs

/-- A command is RESET, or it leaves the source port alone and gives at most one response. -/
theorem exec_cmd_effect {w : BitVec 2} {s t : State} (hs : exec (decodeCommand w) s = .next t) :
    (w = 0b10#2 ∧ t = s.construct) ∨
    (t.source = s.source ∧ t.pos = s.pos ∧ t.past = s.past ∧ (t.out = s.out ∨ ∃ r : Response, t.out = s.out ++ [r])) := by
  rcases exec_cmd_change hs with rfl | ⟨hw, rfl⟩ | ⟨_, ⟨_, _, rfl⟩ | ⟨_, rfl⟩ | ⟨_, _, _, _, rfl⟩ | ⟨_, _, _, _, rfl⟩ |
    ⟨_, _, _, rfl⟩ | ⟨_, _, _, rfl⟩ | ⟨_, _, _, rfl⟩⟩
  · exact .inr ⟨rfl, rfl, rfl, .inl rfl⟩
  · exact .inl ⟨hw, rfl⟩
  · exact .inr ⟨rfl, rfl, rfl, .inl rfl⟩
  · exact .inr ⟨rfl, rfl, rfl, .inl rfl⟩
  · exact .inr ⟨rfl, rfl, rfl, .inl rfl⟩
  · exact .inr ⟨rfl, rfl, rfl, .inr ⟨_, rfl⟩⟩
  · exact .inr ⟨rfl, rfl, rfl, .inr ⟨_, rfl⟩⟩
  · exact .inr ⟨rfl, rfl, rfl, .inr ⟨_, rfl⟩⟩
  · exact .inr ⟨rfl, rfl, rfl, .inr ⟨_, rfl⟩⟩

/-! ## Terminal states (R37) -/

/-- Settles O41: outside a request HDR and SRC rows have no effect, and in a terminal state the other rows but RESET only emit or
fault. -/
theorem terminalInstanceIsFrozen : Obligations.TerminalInstanceIsFrozen := by
  unfold Obligations.TerminalInstanceIsFrozen
  intro i s t hterm hbusy hreset hs
  have hidle : s.reading ≠ true := by simp [State.reading, hbusy]
  cases hi : i.format with
  | hdr =>
    obtain rfl | ⟨hr, _⟩ := exec_hdr_change hi hs
    · rfl
    · exact absurd hr hidle
  | src =>
    obtain rfl | ⟨hr, _⟩ := exec_src_change hi hs
    · rfl
    · exact absurd hr hidle
  | rsp => obtain rfl | ⟨r, rfl⟩ := exec_rsp_change hi hs <;> rfl
  | cmd =>
    obtain ⟨w, rfl⟩ := exists_decodeCommand hi
    rcases exec_cmd_change hs with rfl | ⟨rfl, _⟩ | ⟨_, ⟨_, _, rfl⟩ | ⟨_, rfl⟩ | ⟨_, _, hopen, _⟩ | ⟨_, _, hopen, _⟩ |
      ⟨_, _, _, rfl⟩ | ⟨_, _, _, rfl⟩ | ⟨_, _, _, rfl⟩⟩
    · rfl
    · exact absurd rfl hreset
    · rfl
    · rfl
    · rw [hterm] at hopen; cases hopen
    · rw [hterm] at hopen; cases hopen
    · rfl
    · rfl
    · rfl

/-! ## Responses over a step -/

/-- The row of a header byte on the wire leaves the source port alone and answers the request at most once. -/
theorem step_header_effect {s t : State} {h : Byte} (hw : s.waitingHeader = some h) (hs : step s = .next t) :
    t.source = s.source ∧ t.pos = s.pos ∧ t.past = s.past ∧ Answers s t := by
  have delivered (last : Bool) : (s.deliver h last).source = s.source ∧ (s.deliver h last).pos = s.pos ∧
      (s.deliver h last).past = s.past ∧ Answers s (s.deliver h last) := by
    refine ⟨?_, ?_, ?_, State.deliver_answers h last s⟩ <;>
      rcases State.deliver_cases h last s with ⟨_, e⟩ | ⟨_, e⟩ <;> rw [e] <;> rfl
  obtain ⟨_, ⟨p, _, e⟩ | ⟨p, _, e⟩⟩ := step_header_change hw <;> rw [e] at hs <;> cases hs <;> cases isSei h
  · exact delivered false
  · exact ⟨rfl, rfl, rfl, .inl ⟨rfl, rfl⟩⟩
  · exact delivered true
  · exact ⟨rfl, rfl, rfl, State.enterTerminal_answers .endOfStream s⟩

/-- Settles O42: a header row or a busy step answers at most once, and so does every command but RESET, which moves out to past. -/
theorem responsesAreNeverRewritten : Obligations.ResponsesAreNeverRewritten := by
  unfold Obligations.ResponsesAreNeverRewritten
  intro s t hs
  cases hw : s.waitingHeader with
  | some h =>
    obtain ⟨_, _, hpast, hans⟩ := step_header_effect hw hs
    exact .inl ⟨hpast, hans.out⟩
  | none =>
    rcases step_change hw hs with ⟨w, rest, hin, hc⟩ | ⟨ws, rest, _, rfl⟩ | ⟨rest, _, rfl | ⟨_, _, hc⟩⟩
    · obtain ⟨rfl, rfl⟩ | ⟨_, _, hpast, hout⟩ := exec_cmd_effect hc
      · exact .inr ⟨rfl, rfl, rest, hin⟩
      · exact .inl ⟨hpast, hout⟩
    · exact .inl ⟨rfl, .inl rfl⟩
    · exact .inl ⟨rfl, .inl rfl⟩
    · obtain ⟨_, _, hpast⟩ := hc.reads
      exact .inl ⟨hpast, hc.answers.out⟩

/-- Settles O43: only an enabled busy step reads, and it reads one symbol; RESET clears pos and the environment may reposition the
source. -/
theorem eachSymbolIsReadOnce : Obligations.EachSymbolIsReadOnce := by
  unfold Obligations.EachSymbolIsReadOnce
  intro s t hs
  cases hw : s.waitingHeader with
  | some h =>
    obtain ⟨hsource, hpos, _⟩ := step_header_effect hw hs
    exact .inl ⟨hsource, hpos⟩
  | none =>
    rcases step_change hw hs with ⟨w, rest, hin, hc⟩ | ⟨ws, rest, hin, rfl⟩ | ⟨rest, _, rfl | ⟨hr, hne, hc⟩⟩
    · obtain ⟨rfl, rfl⟩ | ⟨hsource, hpos, _⟩ := exec_cmd_effect hc
      · exact .inr (.inr (.inl ⟨rfl, rfl, rest, hin⟩))
      · exact .inl ⟨hsource, hpos⟩
    · exact .inr (.inr (.inr ⟨rfl, ws, rest, hin, rfl⟩))
    · exact .inl ⟨rfl, rfl⟩
    · obtain ⟨hsource, hpos, _⟩ := hc.reads
      obtain ⟨hbusy, hfault⟩ := (State.reading_iff s).1 hr
      obtain ⟨w, ws, hw⟩ := List.exists_cons_of_ne_nil hne
      exact .inr (.inl ⟨hbusy, hfault, hpos, w, by rw [hsource]; simp [hw]⟩)

/-! ## One response for each request accepted -/

/-- An accepted NEXT_UNIT is outstanding or is answered at once (R171 to R175). -/
theorem exec_nextUnit_accepted {s t : State} (hf : s.fault = none) (hb : s.busy = false) (hs : exec .nextUnit s = .next t) :
    t.out.length + t.busy.toNat = s.out.length + 1 := by
  replace hs : execNextUnit s = .next t := hs
  simp only [execNextUnit, (State.live_iff s).2 hf, hb, if_true, Bool.false_eq_true, if_false] at hs
  have once {r : Response} (hs : (.next (s.emit r) : Result) = .next t) :
      t.out.length + t.busy.toNat = s.out.length + 1 := by
    cases hs; simp [hb]
  have begun (hs : (if s.eofSeen then .next (s.enterTerminal .endOfStream) else .next { s with busy := true } : Result) = .next t) :
      t.out.length + t.busy.toNat = s.out.length + 1 := by
    cases heof : s.eofSeen <;> rw [heof] at hs <;> cases hs
    · rfl
    · simp [State.enterTerminal_endOfStream]
  split at hs
  · exact once hs
  · exact once hs
  · exact once hs
  · exact begun hs
  · exact begun hs

/-- A command that is neither RESET nor an accepted NEXT_UNIT gives no response and leaves the request as it is (R176, R179, R180,
R182). -/
theorem exec_cmd_unanswered {w : BitVec 2} {s t : State} (hreset : w ≠ 0b10#2)
    (hrefused : ¬ (w = 0b01#2 ∧ s.fault = none ∧ s.busy = false)) (hs : exec (decodeCommand w) s = .next t) :
    t.out = s.out ∧ t.busy = s.busy := by
  rcases exec_cmd_change hs with rfl | ⟨hw, _⟩ | ⟨hf, ⟨_, _, rfl⟩ | ⟨_, rfl⟩ | ⟨hw, hb, _⟩ | ⟨hw, hb, _⟩ |
    ⟨hw, hb, _⟩ | ⟨hw, hb, _⟩ | ⟨hw, hb, _⟩⟩
  · exact ⟨rfl, rfl⟩
  · exact absurd hw hreset
  · exact ⟨rfl, rfl⟩
  · exact ⟨rfl, rfl⟩
  all_goals exact absurd ⟨hw, hf, hb⟩ hrefused

/-- Settles O44: HDR and SRC rows answer an outstanding request at most once, and only an accepted NEXT_UNIT adds one. -/
theorem everyAcceptedRequestIsAnsweredOnce : Obligations.EveryAcceptedRequestIsAnsweredOnce := by
  unfold Obligations.EveryAcceptedRequestIsAnsweredOnce
  intro i s t hreset hrsp hs
  cases hi : i.format with
  | hdr =>
    have hne : i ≠ .nextUnit := by rintro rfl; cases hi
    rw [if_neg fun h => hne h.1, Nat.add_zero]
    obtain rfl | ⟨hr, hc⟩ := exec_hdr_change hi hs
    · rfl
    · have hb := ((State.reading_iff s).1 hr).1
      rcases hc with rfl | rfl | ⟨h, last, rfl⟩
      · rfl
      · exact (State.enterTerminal_answers _ s).count hb
      · exact (State.deliver_answers h last s).count hb
  | src =>
    have hne : i ≠ .nextUnit := by rintro rfl; cases hi
    rw [if_neg fun h => hne h.1, Nat.add_zero]
    obtain rfl | ⟨hr, hc⟩ := exec_src_change hi hs
    · rfl
    · exact hc.answers.count ((State.reading_iff s).1 hr).1
  | rsp => exact absurd hi hrsp
  | cmd =>
    split
    next h =>
      obtain ⟨rfl, hf, hb⟩ := h
      rw [exec_nextUnit_accepted hf hb hs, hb]
      rfl
    next h =>
      obtain ⟨w, rfl⟩ := exists_decodeCommand hi
      obtain ⟨hout, hbusy⟩ := exec_cmd_unanswered (by rintro rfl; exact hreset rfl)
        (by rintro ⟨rfl, hf, hb⟩; exact h ⟨rfl, hf, hb⟩) hs
      rw [hout, hbusy, Nat.add_zero]

end Sys2Proof.Machine
end

section
/-! SUPPORT. The capacity limits of a build (spec 10_state.md R24, R25; 40_scanner.md R120; 41_nal_decoder.md R152): what each
operation needs to keep them, then every step. And the values of the state after construction (R34). -/

namespace Sys2Proof.Machine

/-! ## The units given (R31, R87) -/

section

variable {s t : State}

theorem State.units_append {r : Response} (h : t.out = s.out ++ [r]) : t.units = s.units ++ r.asUnit.toList := by
  rw [State.units, h, List.filterMap_append, List.filterMap_cons]
  cases r.asUnit <;> rfl

/-- A response other than a UNIT adds no unit. -/
theorem State.units_append_none {r : Response} (h : t.out = s.out ++ [r]) (hr : r.asUnit = none) : t.units = s.units := by
  rw [State.units_append h, hr]; exact List.append_nil _

theorem State.units_append_unit {u : NalUnit} (h : t.out = s.out ++ [.unit u]) : t.units = s.units ++ [u] :=
  State.units_append h

/-- A terminal signal is no UNIT (R200 to R203). -/
@[simp] theorem State.enterTerminal_units (sig : Signal) (s : State) : (s.enterTerminal sig).units = s.units := by
  cases sig <;> exact State.units_append_none rfl rfl

/-! ## Keeping the limits -/

theorem CapacityInv.srcRead (h : CapacityInv s) : CapacityInv s.srcRead := h

theorem CapacityInv.raiseFault (h : CapacityInv s) (r : FaultReason) : CapacityInv (s.raiseFault r) := h

/-- Emitting a response that is no UNIT keeps the limits. -/
theorem CapacityInv.emit (h : CapacityInv s) {r : Response} (hr : r.asUnit = none) : CapacityInv (s.emit r) := by
  unfold CapacityInv
  rw [State.units_append_none (State.emit_out s r) hr]
  exact h

theorem CapacityInv.enterTerminal (h : CapacityInv s) (sig : Signal) : CapacityInv (s.enterTerminal sig) := by
  simpa [CapacityInv] using h

/-- Whatever the build, a new reader is within its limits (R34). -/
theorem CapacityInv.construct (s : State) : CapacityInv s.construct := by
  simp [CapacityInv, State.construct, State.reset, State.units]

/-- A slice within the limit may take the place of the current one. -/
theorem CapacityInv.setSlice (h : CapacityInv s) {l : List Byte} (hl : ∀ cap ∈ s.cfg.maxNalBytes, l.length ≤ cap) (z : Nat) :
    CapacityInv { s with slice := l, zrun := z } :=
  have ⟨hbuffer, hseq⟩ := h
  ⟨fun cap hcap => ⟨hl cap hcap, (hbuffer cap hcap).2⟩, hseq⟩

theorem CapacityInv.clearSlice (h : CapacityInv s) : CapacityInv { s with slice := [], zrun := 0 } :=
  h.setSlice (fun _ _ => Nat.zero_le _) 0

/-- Delivering a payload within the limit under an index that fits keeps the limits (R152). -/
theorem CapacityInv.delivered (h : CapacityInv s) {g : Byte} {p : List Byte}
    (hp : ∀ cap ∈ s.cfg.maxNalBytes, (g :: p).length ≤ cap) (hroom : s.seqFull = false) (d : DState) (eof busy : Bool) :
    CapacityInv { s with
      out := s.out ++ [.unit (unitOf g p s.seq)], seq := s.seq + 1, dstate := d, eofSeen := eof, busy := busy } := by
  obtain ⟨hbuffer, _⟩ := h
  refine ⟨fun cap hcap => ⟨(hbuffer cap hcap).1, fun u hu => ?_⟩, (State.seqFull_eq_false s).1 hroom⟩
  rw [State.units_append_unit (s := s) rfl, List.mem_append, List.mem_singleton] at hu
  obtain hu | rfl := hu
  · exact (hbuffer cap hcap).2 u hu
  · exact hp cap hcap

/-- Every command keeps the limits. -/
theorem CapacityInv.command {w : BitVec 2} (h : CapacityInv s) (hs : exec (decodeCommand w) s = .next t) : CapacityInv t := by
  rcases exec_cmd_change hs with rfl | ⟨_, rfl⟩ | ⟨_, ⟨_, _, rfl⟩ | ⟨_, rfl⟩ | ⟨_, _, _, _, rfl⟩ | ⟨_, _, _, _, rfl⟩ |
    ⟨_, _, _, rfl⟩ | ⟨_, _, _, rfl⟩ | ⟨_, _, _, rfl⟩⟩
  · exact h
  · exact CapacityInv.construct s
  · exact h.raiseFault _
  · exact h.raiseFault _
  · exact h
  · exact h.enterTerminal _
  · exact h.emit rfl
  · exact h.emit rfl
  · exact h.emit rfl

/-- Every enabled busy step keeps the limits: a commit, and the last slice, fit the buffer or fault (R120). -/
theorem CapacityInv.readChange (h : CapacityInv s) (hc : ReadChange s t) : CapacityInv t := by
  have hread := h.srcRead
  cases hc with
  | fault r => exact hread.raiseFault r
  | zero => exact hread
  | firstStart _ _ => exact hread.clearSlice
  | notAStream _ => exact hread.enterTerminal _
  | empty _ _ => exact hread.enterTerminal _
  | fail e => exact hread.enterTerminal _
  | payload b _ _ _ hfits => exact hread.setSlice (by simpa [zeros] using (State.fits_iff s _).1 hfits) 0
  | skip _ _ => exact hread.clearSlice
  | deliver g p _ _ hslice _ hroom =>
    have ⟨hbuffer, _⟩ := h
    exact hread.clearSlice.delivered (fun cap hcap => hslice ▸ (hbuffer cap hcap).1) hroom _ _ _
  | lastEnds _ _ => exact hread.clearSlice.enterTerminal _
  | lastDelivered g p _ hfits hlast _ hroom =>
    have hlen : s.slice.length + s.zrun = (g :: p).length := by simpa [zeros] using congrArg List.length hlast
    exact hread.clearSlice.delivered (fun cap hcap => hlen ▸ (State.fits_iff s _).1 hfits cap hcap) hroom _ _ _

end

/-- Settles O52: moves of the environment, commands and busy steps all keep the limits. -/
theorem stepKeepsCapacity : Obligations.StepKeepsCapacity := by
  unfold Obligations.StepKeepsCapacity
  intro s t h hwire hs
  exact step_keeps (fun _ _ _ h => h) (fun _ _ _ => CapacityInv.command) (fun _ _ h _ => CapacityInv.readChange h) h hwire hs

/-! ## The values after construction (R34) -/

/-- Settles O1: each field is read off the definition of the reset state. -/
theorem resetLeavesTheConstructionValues : Obligations.ResetLeavesTheConstructionValues := by
  unfold Obligations.ResetLeavesTheConstructionValues
  exact ⟨rfl, rfl, rfl, rfl, rfl, rfl, rfl, rfl, rfl, rfl, rfl⟩

/-- Settles O48: at reset the slice, the responses and seq are empty, and a new reader of any build meets the core and capacity
invariants. -/
theorem resetMeetsEveryInvariant : Obligations.ResetMeetsEveryInvariant := by
  unfold Obligations.ResetMeetsEveryInvariant
  have hsequence : SequenceInv State.reset := rfl
  have hpayload : PayloadInv State.reset := ⟨rfl, nofun, nofun⟩
  exact ⟨CoreInv.construct State.reset, hsequence, hpayload, CapacityInv.construct State.reset⟩

end Sys2Proof.Machine
end

section
/-! SUPPORT. The ports (spec 20_memory.md R51, R56, R57, R63, R64): where a placed word is fetched from, when a source row has an
effect, what a response row emits, and the history of the response port over a step. -/

namespace Sys2Proof.Machine

/-! ## Fetching from the ports (R63, R170, R177) -/

section

variable {s : State}

/-- A command is fetched from the head of inputs when no header byte waits. -/
theorem fetch_command {w : BitVec 2} {rest : List Input} (hwire : s.waitingHeader = none)
    (hin : s.inputs = .command w :: rest) : fetch s = (decodeCommand w, { s with inputs := rest }) := by
  simp [fetch, fetchPort, hwire, hin]

/-- Inside a request the source's next symbol is fetched as the row it selects (R121). -/
theorem fetchSymbol_of_reading {w : SrcWord} {ws : List SrcWord} (hr : s.reading = true) (hsource : s.source = w :: ws) :
    fetchSymbol s = (decodeSource s.cfg s.foundFirst s.zrun w, s) := by
  simp [fetchSymbol, hr, hsource]

/-- A listed answer inside a request is the row of the source's next symbol when no header byte waits. -/
theorem fetch_answer {w : SrcWord} {ws : List SrcWord} {rest : List Input} (hwire : s.waitingHeader = none)
    (hin : s.inputs = .answer :: rest) (hr : s.reading = true) (hsource : s.source = w :: ws) :
    fetch s = (decodeSource s.cfg s.foundFirst s.zrun w, { s with inputs := rest }) := by
  have hport : fetch s = fetchSymbol { s with inputs := rest } := by simp [fetch, fetchPort, hwire, hin]
  exact hport.trans (fetchSymbol_of_reading hr hsource)

end

/-! ## Placing a table word -/

/-- A source word is read alike in builds of the same ERR_W (R82, R84). -/
theorem decodeSource_congr_errW {c d : Config} (h : c.errW = d.errW) (ff : Bool) (z : Nat) (w : SrcWord) :
    decodeSource c ff z w = decodeSource d ff z w := by
  have hsymbol : w.symbol c = w.symbol d := by
    unfold SrcWord.symbol SrcWord.dataField Config.dataWidth
    rw [h]
  unfold decodeSource
  rw [hsymbol]

/-- The table decoder takes three formats; response words are not among them (log entry 6). -/
theorem tableFormat_ne_rsp (nbits w : Nat) : tableFormat nbits w ≠ some .rsp := by
  unfold tableFormat
  split_ifs <;> decide

/-- The table decoder is the decoder in the word's format, in the build, phase and zero count of reset. -/
theorem decodeTableWord_eq_some {nbits w : Nat} {i : Instr} (h : decodeTableWord nbits w = some i) :
    ∃ fmt, tableFormat nbits w = some fmt ∧ decodeWord Config.softwareSemantics false 0 fmt w = .ok i := by
  unfold decodeTableWord at h
  split at h
  next => cases h
  next fmt hfmt =>
    split at h
    next j hdec => cases h; exact ⟨fmt, hfmt, hdec⟩
    next => cases h

/-- A word that is read is read by its format's own decoder. -/
theorem decodeWord_cases {c : Config} {ff : Bool} {z w : Nat} {fmt : Format} {i : Instr} (h : decodeWord c ff z fmt w = .ok i) :
    (fmt = .hdr ∧ i = decodeHeader (BitVec.ofNat 8 w)) ∨
    (fmt = .cmd ∧ i = decodeCommand (BitVec.ofNat 2 w)) ∨
    (fmt = .src ∧ i = decodeSource c ff z (SrcWord.ofNat c w)) ∨
    (fmt = .rsp ∧ decodeResponse c (BitVec.ofNat 10 w) = .ok i) := by
  unfold decodeWord at h
  split at h
  next =>
    cases fmt with
    | hdr => cases h; exact .inl ⟨rfl, rfl⟩
    | cmd => cases h; exact .inr (.inl ⟨rfl, rfl⟩)
    | src => cases h; exact .inr (.inr (.inl ⟨rfl, rfl⟩))
    | rsp => exact .inr (.inr (.inr ⟨rfl, h⟩))
  next => cases h

theorem fetch_placeCommand (w : BitVec 2) (s : State) : (fetch (placeCommand w s)).1 = decodeCommand w := by
  rw [fetch_command (State.waitingHeader_of_event_none rfl) rfl]

theorem fetch_placeSymbol (w : SrcWord) (s : State) :
    (fetch (placeSymbol w s)).1 = decodeSource Config.softwareSemantics false 0 w := by
  rw [fetch_answer (State.waitingHeader_of_event_none rfl) rfl rfl rfl]
  exact decodeSource_congr_errW rfl _ _ _

theorem fetch_placeHeader (h : Byte) (s : State) : (fetch (placeHeader h s)).1 = decodeHeader h := rfl

/-- Settles O35: a word is placed in the format the table decoder reads it in, and each of the three places is fetched from. -/
theorem placedTableWordIsFetched : Obligations.PlacedTableWordIsFetched := by
  unfold Obligations.PlacedTableWordIsFetched
  intro s nbits w i h
  obtain ⟨fmt, hfmt, hdec⟩ := decodeTableWord_eq_some h
  unfold State.withFetchWord placeTableWord
  rw [h, hfmt]
  rcases decodeWord_cases hdec with ⟨rfl, rfl⟩ | ⟨rfl, rfl⟩ | ⟨rfl, rfl⟩ | ⟨rfl, _⟩
  · exact fetch_placeHeader _ s
  · exact fetch_placeCommand _ s
  · exact fetch_placeSymbol _ s
  · exact absurd hfmt (tableFormat_ne_rsp nbits w)

/-! ## When a source row has an effect (R57, R121, R177) -/

/-- A SRC row is SRC_RESERVED, or it is a busy step selected by its row condition (R121, R177). -/
theorem exec_src_busyStep {i : Instr} (hi : i.format = .src) (s : State) :
    i = .srcReserved ∨
    ∃ selected rule, exec i s = busyStep selected rule s ∧ selected s = i.rowCondition s.foundFirst s.zrun := by
  have hfew : (!s.zerosReady) = decide (s.zrun < 2) := by simp [State.zerosReady, ← decide_not]
  cases i <;> cases hi
  case srcReserved => exact .inl rfl
  case byteOneSeekFirstNas => exact .inr ⟨fun s => s.seekFirst && !s.zerosReady, _, rfl, congrArg (s.seekFirst && ·) hfew⟩
  case byteOneInUnitPayload => exact .inr ⟨fun s => s.inUnit && !s.zerosReady, _, rfl, congrArg (s.inUnit && ·) hfew⟩
  all_goals exact .inr ⟨_, _, rfl, by rfl⟩

/-- A SRC row without an outstanding read has no effect (R57, R177). -/
theorem exec_src_of_not_reading {i : Instr} {s : State} (hi : i.format = .src) (hr : s.reading = false) :
    exec i s = .next s := by
  obtain rfl | ⟨selected, rule, hrow, _⟩ := exec_src_busyStep hi s
  · simp [exec, execSrcReserved, hr]
  · rw [hrow]
    exact busyStep_disabled (by rw [hr, Bool.false_and])

/-- A SRC row that the phase and the zero count do not select has no effect (log entry 7). -/
theorem exec_src_of_not_selected {i : Instr} {s : State} (hi : i.format = .src)
    (hcond : i.rowCondition s.foundFirst s.zrun = false) : exec i s = .next s := by
  obtain rfl | ⟨selected, rule, hrow, hsel⟩ := exec_src_busyStep hi s
  · cases hcond
  · rw [hrow]
    exact busyStep_disabled (by rw [hsel, hcond, Bool.and_false])

/-- Settles O38: both conditions disable the busy step. -/
theorem unselectedRowHasNoEffect : Obligations.UnselectedRowHasNoEffect := by
  unfold Obligations.UnselectedRowHasNoEffect
  intro i s hi
  exact ⟨fun hbusy => exec_src_of_not_reading hi ((State.reading_eq_false s).2 (.inl hbusy)), exec_src_of_not_selected hi⟩

/-! ## The history of the response port (R56, R60, R64) -/

/-- Moving the responses of an ended run to the observation leaves the port's history as it was (R178). -/
theorem State.responsePort_of_ended {s t : State} {f : Option FaultReason} (hout : t.out = [])
    (hpast : t.past = s.past ++ [{ out := s.out, fault := f }]) (hcfg : t.cfg = s.cfg) : t.responsePort = s.responsePort := by
  simp [State.responsePort, State.handedOver, hout, hpast, hcfg]

/-- A step run by the RESET command constructs a new reader (R178). -/
theorem step_reset {s : State} {rest : List Input} (hwire : s.waitingHeader = none) (hin : s.inputs = .command 0b10#2 :: rest) :
    step s = .next (State.construct { s with inputs := rest }) := by
  rw [step, fetch_command hwire hin]
  rfl

/-- Settles O59: a step appends at most one response to out, or moves out to past (O42), and keeps the build (O45). -/
theorem portIsOnlyExtended : Obligations.PortIsOnlyExtended := by
  unfold Obligations.PortIsOnlyExtended
  intro s t hs
  have hcfg : t.cfg = s.cfg := buildParametersNeverChange s t hs
  constructor
  · obtain ⟨hpast, hout | ⟨r, hout⟩⟩ | ⟨hout, hpast, _⟩ := responsesAreNeverRewritten s t hs
    · exact .inl (State.responsePort_congr hpast hout hcfg)
    · exact .inr ⟨r, State.responsePort_append hpast hout hcfg⟩
    · exact .inl (State.responsePort_of_ended hout hpast hcfg)
  · rintro ⟨rest, hin⟩ hwire
    rw [step_reset hwire hin] at hs
    cases hs
    exact State.responsePort_construct { s with inputs := rest }

/-! ## Response rows (R64, R86, R87) -/

/-- The code a SOURCE_READ_FAILURE row makes has the row's info as its low byte (R86). -/
theorem withFailInfo_mod (e : SrcErr) (info : BitVec 8) : withFailInfo e info % 256 = info.toNat :=
  (Nat.mul_add_mod_self_right _ _ _).trans (Nat.mod_eq_of_lt info.isLt)

theorem State.failValue_of_failCode {s : State} {e : SrcErr} (h : s.failCode = some e) : s.failValue = e := by
  simp [State.failValue, h]

section

variable {s : State} (hf : s.fault = none)
include hf

theorem exec_rspUnit (info : BitVec 8) :
    exec (.rspUnit info) s = .next (s.emit (.unit (unitOf info (eventSlice s.event).tail s.seq))) :=
  if_pos ((State.live_iff s).2 hf)

theorem exec_rspEndOfStream : exec .rspEndOfStream s = .next (s.emit .endOfStream) :=
  if_pos ((State.live_iff s).2 hf)

theorem exec_rspNotAStream : exec .rspNotAStream s = .next (s.emit .notAStream) :=
  if_pos ((State.live_iff s).2 hf)

theorem exec_rspSourceReadFailure (info : BitVec 8) :
    exec (.rspSourceReadFailure info) s = .next (s.emit (.sourceReadFailure (withFailInfo s.failValue info))) :=
  if_pos ((State.live_iff s).2 hf)

/-- With a code recorded, the row whose info is that code's low byte emits the whole code (R86, R203). -/
theorem exec_rspSourceReadFailure_recorded {e : SrcErr} (he : s.failCode = some e) :
    exec (.rspSourceReadFailure (failInfo e)) s = .next (s.emit (.sourceReadFailure e)) := by
  rw [exec_rspSourceReadFailure hf, State.failValue_of_failCode he, withFailInfo_failInfo]

end

/-- Settles O33: with no fault each response row is the Emit of its response. -/
theorem responseRowsEmit : Obligations.ResponseRowsEmit := by
  unfold Obligations.ResponseRowsEmit
  intro s hf
  refine ⟨exec_rspUnit hf, exec_rspEndOfStream hf, exec_rspNotAStream hf, fun info => ?_,
    fun _ => exec_rspSourceReadFailure_recorded hf⟩
  exact ⟨_, withFailInfo_mod s.failValue info, exec_rspSourceReadFailure hf info⟩

end Sys2Proof.Machine
end

section
/-! SUPPORT. Encoding and decoding (spec 30_encoding.md): the decoder of each format, what a source word selects, the words and
items of a response, and every row decoded from its own word. -/

namespace Sys2Proof.Machine

/-! ## The decoder of each format, on a word of that format (R70, R80, R82, R86) -/

section

variable (cfg : Config) (ff : Bool) (z : Nat)

theorem decodeWord_hdr (h : Byte) : decodeWord cfg ff z .hdr h.toNat = .ok (decodeHeader h) := by
  have hlt : h.toNat < 2 ^ Format.hdr.width cfg := h.isLt
  simp [decodeWord, hlt]

theorem decodeWord_cmd (w : BitVec 2) : decodeWord cfg ff z .cmd w.toNat = .ok (decodeCommand w) := by
  have hlt : w.toNat < 2 ^ Format.cmd.width cfg := w.isLt
  simp [decodeWord, hlt]

theorem decodeWord_rsp (w : BitVec 10) : decodeWord cfg ff z .rsp w.toNat = decodeResponse cfg w := by
  have hlt : w.toNat < 2 ^ Format.rsp.width cfg := w.isLt
  simp [decodeWord, hlt]

theorem decodeWord_srcNat {tag data : Nat} (ht : tag < 4) (hd : data < 2 ^ cfg.dataWidth) :
    decodeWord cfg ff z .src (srcNat cfg tag data) = .ok (decodeSource cfg ff z { tag := BitVec.ofNat 2 tag, data := data }) := by
  have hlt : srcNat cfg tag data < 2 ^ Format.src.width cfg := srcNat_lt ht hd
  simp only [decodeWord, hlt, if_true, SrcWord.ofNat_srcNat hd]

end

/-! ## Header bytes (R70 to R73) -/

/-- The type bits of a header byte written from its fields. -/
theorem headerByte_getLsbD (f : Bool) (nri : BitVec 2) (t : BitVec 5) {i : Nat} (hi : i < 5) :
    (headerByte f nri t).getLsbD i = t.getLsbD i := by
  rw [header_bits _ i hi, headerType_headerByte]

theorem decodeHeader_format (h : Byte) : (decodeHeader h).format = .hdr := by
  unfold decodeHeader
  split <;> rfl

/-- A header byte's row writes the byte's F and NRI over the row's own type, which is the byte's. -/
theorem encode_decodeHeader (cfg : Config) (h : Byte) : encode cfg (decodeHeader h) = h.toNat := by
  have hfields : encode cfg (decodeHeader h) = (headerByte (headerF h) (headerNri h) (headerType h)).toNat := by
    unfold decodeHeader
    rw [header_bits h 4 (by decide), header_bits h 3 (by decide), header_bits h 2 (by decide), header_bits h 1 (by decide),
      header_bits h 0 (by decide)]
    rcases bitVec5_cases (headerType h) with e | e | e | e | e | e | e | e | e | e | e | e | e | e | e | e | e | e | e | e | e |
      e | e | e | e | e | e | e | e | e | e | e <;> rw [e] <;> rfl
  rw [hfields, headerByte_fields]

/-- A HDR row's word is the header byte of its operands and type, and that byte selects the row (R70, R73). -/
theorem exists_headerByte {i : Instr} (hi : i.format = .hdr) :
    ∃ f nri t, decodeHeader (headerByte f nri t) = i ∧ ∀ cfg, encode cfg i = (headerByte f nri t).toNat := by
  cases i <;> cases hi
  all_goals
    refine ⟨_, _, _, ?_, fun _ => rfl⟩
    simp only [decodeHeader, headerByte_getLsbD _ _ _ (show 4 < 5 by decide), headerByte_getLsbD _ _ _ (show 3 < 5 by decide),
      headerByte_getLsbD _ _ _ (show 2 < 5 by decide), headerByte_getLsbD _ _ _ (show 1 < 5 by decide),
      headerByte_getLsbD _ _ _ (show 0 < 5 by decide), headerF_headerByte, headerNri_headerByte]
    rfl

/-- Settles O3: the type bits select the row, and its word is the byte again. -/
theorem everyHeaderByteDecodesToItsOwnRow : Obligations.EveryHeaderByteDecodesToItsOwnRow := by
  unfold Obligations.EveryHeaderByteDecodesToItsOwnRow
  exact fun cfg ff z h => ⟨decodeHeader_format h, encode_decodeHeader cfg h, decodeWord_hdr cfg ff z h⟩

/-! ## Command words (R80) -/

theorem bitVec2_cases : ∀ w : BitVec 2, w = 0b00#2 ∨ w = 0b01#2 ∨ w = 0b10#2 ∨ w = 0b11#2 := by decide

/-- A CMD row's word is the command word that selects it. -/
theorem encode_decodeCommand (cfg : Config) (w : BitVec 2) : encode cfg (decodeCommand w) = w.toNat := by
  rcases bitVec2_cases w with rfl | rfl | rfl | rfl <;> rfl

/-! ## The symbol of a source word (R82 to R85) -/

section

variable {cfg : Config} {w : SrcWord}

theorem SrcWord.symbol_byte (ht : w.tag = 0b00#2) (hd : w.dataField cfg < 256) :
    w.symbol cfg = some (.byte (BitVec.ofNat 8 (w.dataField cfg))) := by
  simp [SrcWord.symbol, ht, hd]

theorem SrcWord.symbol_wideByte (ht : w.tag = 0b00#2) (hd : 256 ≤ w.dataField cfg) : w.symbol cfg = none := by
  simp [SrcWord.symbol, ht, hd]

theorem SrcWord.symbol_eof (ht : w.tag = 0b01#2) : w.symbol cfg = some .eof := by
  simp [SrcWord.symbol, ht]

theorem SrcWord.symbol_fail (ht : w.tag = 0b10#2) : w.symbol cfg = some (.fail (w.dataField cfg % 2 ^ cfg.errW)) := by
  simp [SrcWord.symbol, ht]

theorem SrcWord.symbol_reservedTag (ht : w.tag = 0b11#2) : w.symbol cfg = none := by
  simp [SrcWord.symbol, ht]

/-- The reserved words are those of tag 0b11 and the BYTE words with a data bit above bit 7 (R83, R85). -/
theorem SrcWord.symbol_eq_none_iff :
    w.symbol cfg = none ↔ w.tag = 0b11#2 ∨ (w.tag = 0b00#2 ∧ 256 ≤ w.dataField cfg) := by
  obtain ht | ht | ht | ht := bitVec2_cases w.tag
  · obtain hd | hd := Nat.lt_or_ge (w.dataField cfg) 256
    · simp [SrcWord.symbol_byte ht hd, ht, hd]
    · simp [SrcWord.symbol_wideByte ht hd, ht, hd]
  · simp [SrcWord.symbol_eof ht, ht]
  · simp [SrcWord.symbol_fail ht, ht]
  · simp [SrcWord.symbol_reservedTag ht, ht]

end

/-! ## The row of a symbol (R74, R121) -/

theorem otherSeekFirst_ne_srcReserved (b : Byte) : otherSeekFirst b ≠ .srcReserved := by
  unfold otherSeekFirst
  split_ifs <;> nofun

theorem otherInUnit_ne_srcReserved (b : Byte) : otherInUnit b ≠ .srcReserved := by
  unfold otherInUnit
  split_ifs <;> nofun

theorem byteRow_ne_srcReserved (ff : Bool) (z : Nat) (b : Byte) : byteRow ff z b ≠ .srcReserved := by
  unfold byteRow
  split
  next => split <;> nofun
  next =>
    split
    next => split <;> split <;> nofun
    next =>
      split
      next => exact otherInUnit_ne_srcReserved b
      next => exact otherSeekFirst_ne_srcReserved b

/-- No symbol is classed as reserved. -/
theorem symbolRow_ne_srcReserved (ff : Bool) (z : Nat) (sym : Symbol) : symbolRow ff z sym ≠ .srcReserved := by
  cases sym with
  | byte b => exact byteRow_ne_srcReserved ff z b
  | eof => unfold symbolRow; split_ifs <;> nofun
  | fail e => unfold symbolRow; split_ifs <;> nofun

/-- A byte of class OTHER selects by the phase alone (R104, R113). -/
theorem byteRow_other {b : Byte} (h0 : b ≠ 0x00#8) (h1 : b ≠ 0x01#8) (ff : Bool) (z : Nat) :
    byteRow ff z b = if ff then otherInUnit b else otherSeekFirst b := by
  simp [byteRow, h0, h1]

section

variable {cfg : Config} {ff : Bool} {z : Nat} {w : SrcWord}

theorem decodeSource_of_symbol {sym : Symbol} (h : w.symbol cfg = some sym) : decodeSource cfg ff z w = symbolRow ff z sym := by
  simp [decodeSource, h]

theorem decodeSource_of_no_symbol (h : w.symbol cfg = none) : decodeSource cfg ff z w = .srcReserved := by
  simp [decodeSource, h]

theorem decodeSource_eq_srcReserved_iff : decodeSource cfg ff z w = .srcReserved ↔ w.symbol cfg = none := by
  cases h : w.symbol cfg with
  | none => simp [decodeSource_of_no_symbol h]
  | some sym => simp [decodeSource_of_symbol h, symbolRow_ne_srcReserved]

end

/-- Settles O7: a source word is reserved exactly when it has no symbol. -/
theorem byteWordWithHighBitIsReserved : Obligations.ByteWordWithHighBitIsReserved := by
  unfold Obligations.ByteWordWithHighBitIsReserved
  exact fun cfg ff z w => ⟨fun ht hd => decodeSource_of_symbol (SrcWord.symbol_byte ht hd),
    fun ht hd => decodeSource_of_no_symbol (SrcWord.symbol_wideByte ht hd),
    decodeSource_eq_srcReserved_iff.trans SrcWord.symbol_eq_none_iff⟩

/-! ## A byte of class OTHER as its range and low bits (R104, R113) -/

/-- Each range of class OTHER has its own row in phase SEEK_FIRST, with the byte's low bits. -/
theorem otherSeekFirst_rangeByte :
    (∀ b : BitVec 1, otherSeekFirst (rangeByte 0x02 b) = .byteOtherSeekFirst02 b) ∧
    (∀ b : BitVec 2, otherSeekFirst (rangeByte 0x04 b) = .byteOtherSeekFirst04 b) ∧
    (∀ b : BitVec 3, otherSeekFirst (rangeByte 0x08 b) = .byteOtherSeekFirst08 b) ∧
    (∀ b : BitVec 4, otherSeekFirst (rangeByte 0x10 b) = .byteOtherSeekFirst10 b) ∧
    (∀ b : BitVec 5, otherSeekFirst (rangeByte 0x20 b) = .byteOtherSeekFirst20 b) ∧
    (∀ b : BitVec 6, otherSeekFirst (rangeByte 0x40 b) = .byteOtherSeekFirst40 b) ∧
    (∀ b : BitVec 7, otherSeekFirst (rangeByte 0x80 b) = .byteOtherSeekFirst80 b) := by
  decide

theorem otherInUnit_rangeByte :
    (∀ b : BitVec 1, otherInUnit (rangeByte 0x02 b) = .byteOtherInUnit02 b) ∧
    (∀ b : BitVec 2, otherInUnit (rangeByte 0x04 b) = .byteOtherInUnit04 b) ∧
    (∀ b : BitVec 3, otherInUnit (rangeByte 0x08 b) = .byteOtherInUnit08 b) ∧
    (∀ b : BitVec 4, otherInUnit (rangeByte 0x10 b) = .byteOtherInUnit10 b) ∧
    (∀ b : BitVec 5, otherInUnit (rangeByte 0x20 b) = .byteOtherInUnit20 b) ∧
    (∀ b : BitVec 6, otherInUnit (rangeByte 0x40 b) = .byteOtherInUnit40 b) ∧
    (∀ b : BitVec 7, otherInUnit (rangeByte 0x80 b) = .byteOtherInUnit80 b) := by
  decide

/-! ## Source rows decoded from their own word (R82, R84, R121) -/

section

variable (cfg : Config) (ff : Bool) (z : Nat)

theorem decodeWord_symbol {tag data : Nat} {sym : Symbol} (ht : tag < 4) (hd : data < 2 ^ cfg.dataWidth)
    (hsym : SrcWord.symbol cfg { tag := BitVec.ofNat 2 tag, data := data } = some sym) :
    decodeWord cfg ff z .src (srcNat cfg tag data) = .ok (symbolRow ff z sym) := by
  rw [decodeWord_srcNat cfg ff z ht hd, decodeSource_of_symbol hsym]

theorem decodeWord_byte {n : Nat} (hn : n < 256) :
    decodeWord cfg ff z .src (srcNat cfg 0 n) = .ok (byteRow ff z (BitVec.ofNat 8 n)) := by
  have hd : n < 2 ^ cfg.dataWidth := lt_of_lt_of_le hn cfg.two_pow_eight_le
  have hfield : SrcWord.dataField cfg { tag := 0b00#2, data := n } = n := Nat.mod_eq_of_lt hd
  have hsym := SrcWord.symbol_byte (cfg := cfg) (w := { tag := 0b00#2, data := n }) rfl (hfield.trans_lt hn)
  rw [hfield] at hsym
  exact decodeWord_symbol cfg ff z (by decide) hd hsym

theorem decodeWord_other {n base : Nat} (h : base + 2 ^ n ≤ 256) (hb : 2 ≤ base) (b : BitVec n) :
    decodeWord cfg ff z .src (srcNat cfg 0 (base + b.toNat)) =
      .ok (if ff then otherInUnit (rangeByte base b) else otherSeekFirst (rangeByte base b)) := by
  have hne := rangeByte_ne (b := b) h hb
  have := b.isLt
  rw [← byteRow_other hne.1 hne.2 ff z]
  exact decodeWord_byte cfg ff z (by omega)

theorem decodeWord_eof : decodeWord cfg ff z .src (srcNat cfg 1 0) = .ok (symbolRow ff z .eof) :=
  decodeWord_symbol cfg ff z (by decide) (Nat.two_pow_pos _) (SrcWord.symbol_eof rfl)

theorem decodeWord_fail {e : SrcErr} (he : e < 2 ^ cfg.errW) :
    decodeWord cfg ff z .src (srcNat cfg 2 e) = .ok (symbolRow ff z (.fail e)) := by
  have hd : e < 2 ^ cfg.dataWidth := Config.code_lt he
  have hcode : SrcWord.dataField cfg { tag := 0b10#2, data := e } % 2 ^ cfg.errW = e := by
    rw [SrcWord.dataField, Nat.mod_eq_of_lt hd, Nat.mod_eq_of_lt he]
  refine decodeWord_symbol cfg ff z (by decide) hd ((SrcWord.symbol_fail rfl).trans ?_)
  rw [hcode]

theorem decodeWord_reservedTag : decodeWord cfg ff z .src (srcNat cfg 3 0) = .ok .srcReserved := by
  rw [decodeWord_srcNat cfg ff z (by decide) (Nat.two_pow_pos _), decodeSource_of_no_symbol (SrcWord.symbol_reservedTag rfl)]

end

/-- A SRC row whose condition holds is selected by its own word. -/
theorem decodeWord_encode_src {cfg : Config} {ff : Bool} {z : Nat} {i : Instr} (hi : i.format = .src)
    (hwf : i.wellFormed cfg = true) (hcond : i.rowCondition ff z = true) :
    decodeWord cfg ff z .src (encode cfg i) = .ok i := by
  have byte {n : Nat} {i : Instr} (hn : n < 256) (hrow : byteRow ff z (BitVec.ofNat 8 n) = i) :
      decodeWord cfg ff z .src (srcNat cfg 0 n) = .ok i := hrow ▸ decodeWord_byte cfg ff z hn
  have eof {i : Instr} (hrow : symbolRow ff z .eof = i) : decodeWord cfg ff z .src (srcNat cfg 1 0) = .ok i :=
    hrow ▸ decodeWord_eof cfg ff z
  have seek {n base : Nat} {b : BitVec n} {i : Instr} (h : base + 2 ^ n ≤ 256) (h2 : 2 ≤ base) (hff : ff = false)
      (hrow : otherSeekFirst (rangeByte base b) = i) :
      decodeWord cfg ff z .src (srcNat cfg 0 (base + b.toNat)) = .ok i := by
    rw [decodeWord_other cfg ff z h h2 b, hff, ← hrow]
    rfl
  have unit {n base : Nat} {b : BitVec n} {i : Instr} (h : base + 2 ^ n ≤ 256) (h2 : 2 ≤ base) (hff : ff = true)
      (hrow : otherInUnit (rangeByte base b) = i) :
      decodeWord cfg ff z .src (srcNat cfg 0 (base + b.toNat)) = .ok i := by
    rw [decodeWord_other cfg ff z h h2 b, hff, ← hrow]
    rfl
  obtain ⟨seek02, seek04, seek08, seek10, seek20, seek40, seek80⟩ := otherSeekFirst_rangeByte
  obtain ⟨unit02, unit04, unit08, unit10, unit20, unit40, unit80⟩ := otherInUnit_rangeByte
  cases i <;> cases hi <;>
    simp only [Instr.rowCondition, Instr.wellFormed, Bool.and_eq_true, Bool.not_eq_true', decide_eq_true_eq] at hcond hwf
  case byteZeroSeekFirst => exact byte (by decide) (by simp [byteRow, hcond])
  case byteZeroInUnit => exact byte (by decide) (by simp [byteRow, hcond])
  case byteOneSeekFirstStart => exact byte (by decide) (by simp [byteRow, hcond])
  case byteOneSeekFirstNas => exact byte (by decide) (by simp [byteRow, hcond])
  case byteOneInUnitDelim => exact byte (by decide) (by simp [byteRow, hcond])
  case byteOneInUnitPayload => exact byte (by decide) (by simp [byteRow, hcond])
  case byteOtherSeekFirst02 b => exact seek (by decide) (by decide) hcond (seek02 b)
  case byteOtherSeekFirst04 b => exact seek (by decide) (by decide) hcond (seek04 b)
  case byteOtherSeekFirst08 b => exact seek (by decide) (by decide) hcond (seek08 b)
  case byteOtherSeekFirst10 b => exact seek (by decide) (by decide) hcond (seek10 b)
  case byteOtherSeekFirst20 b => exact seek (by decide) (by decide) hcond (seek20 b)
  case byteOtherSeekFirst40 b => exact seek (by decide) (by decide) hcond (seek40 b)
  case byteOtherSeekFirst80 b => exact seek (by decide) (by decide) hcond (seek80 b)
  case byteOtherInUnit02 b => exact unit (by decide) (by decide) hcond (unit02 b)
  case byteOtherInUnit04 b => exact unit (by decide) (by decide) hcond (unit04 b)
  case byteOtherInUnit08 b => exact unit (by decide) (by decide) hcond (unit08 b)
  case byteOtherInUnit10 b => exact unit (by decide) (by decide) hcond (unit10 b)
  case byteOtherInUnit20 b => exact unit (by decide) (by decide) hcond (unit20 b)
  case byteOtherInUnit40 b => exact unit (by decide) (by decide) hcond (unit40 b)
  case byteOtherInUnit80 b => exact unit (by decide) (by decide) hcond (unit80 b)
  case eofSeekFirstEmpty => exact eof (by simp [symbolRow, hcond])
  case eofSeekFirstNas => exact eof (by simp [symbolRow, hcond, Nat.pos_iff_ne_zero.1 hcond.2])
  case eofInUnit => exact eof (by simp [symbolRow, hcond])
  case failSeekFirst e => exact (decodeWord_fail cfg ff z hwf).trans (by simp [symbolRow, hcond])
  case failInUnit e => exact (decodeWord_fail cfg ff z hwf).trans (by simp [symbolRow, hcond])
  case srcReserved => exact decodeWord_reservedTag cfg ff z

/-! ## Response words (R86) -/

/-- A response word's tag stands above its info. -/
theorem ofNat_tag_info (tag : BitVec 2) (info : BitVec 8) : BitVec.ofNat 10 (tag.toNat * 0x100 + info.toNat) = tag ++ info := by
  apply BitVec.eq_of_toNat_eq
  have htag := tag.isLt
  have hinfo := info.isLt
  rw [BitVec.toNat_append, ← Nat.shiftLeft_add_eq_or_of_lt hinfo, Nat.shiftLeft_eq, BitVec.toNat_ofNat,
    Nat.mod_eq_of_lt (by omega)]

theorem toNat_tag_info (tag : BitVec 2) (info : BitVec 8) : (tag ++ info).toNat = tag.toNat * 0x100 + info.toNat := by
  have htag := tag.isLt
  have hinfo := info.isLt
  rw [← ofNat_tag_info, BitVec.toNat_ofNat, Nat.mod_eq_of_lt (by omega)]

theorem tag_info_getLsbD (tag : BitVec 2) (info : BitVec 8) (i : Nat) :
    BitVec.getLsbD (w := 10) (tag ++ info) (i + 8) = tag.getLsbD i := by
  refine BitVec.getLsbD_append.trans ?_
  simp

theorem tag_info_low (tag : BitVec 2) (info : BitVec 8) : BitVec.extractLsb' (n := 10) 0 8 (tag ++ info) = info :=
  BitVec.extractLsb'_append_eq_right

theorem decodeResponse_unit (cfg : Config) (info : BitVec 8) : decodeResponse cfg (0b00#2 ++ info) = .ok (.rspUnit info) := by
  simp only [decodeResponse, tag_info_getLsbD _ _ 1, tag_info_getLsbD _ _ 0, tag_info_low]
  rfl

theorem decodeResponse_sourceReadFailure {cfg : Config} {info : BitVec 8} (hinfo : info.toNat < 2 ^ cfg.errW) :
    decodeResponse cfg (0b11#2 ++ info) = .ok (.rspSourceReadFailure info) := by
  simp only [decodeResponse, tag_info_getLsbD _ _ 1, tag_info_getLsbD _ _ 0, tag_info_low, hinfo]
  rfl

/-- A RSP row is read back from its own word. -/
theorem decodeWord_encode_rsp {cfg : Config} {i : Instr} (hi : i.format = .rsp) (hwf : i.wellFormed cfg = true)
    (ff : Bool) (z : Nat) : decodeWord cfg ff z .rsp (encode cfg i) = .ok i := by
  have word (tag : BitVec 2) (info : BitVec 8) :
      decodeWord cfg ff z .rsp (tag.toNat * 0x100 + info.toNat) = decodeResponse cfg (tag ++ info) := by
    rw [← toNat_tag_info]
    exact decodeWord_rsp cfg ff z (tag ++ info)
  cases i <;> cases hi
  case rspUnit info => exact (word 0b00#2 info).trans (decodeResponse_unit cfg info)
  case rspEndOfStream => exact word 0b01#2 0#8
  case rspNotAStream => exact word 0b10#2 0#8
  case rspSourceReadFailure info => exact (word 0b11#2 info).trans (decodeResponse_sourceReadFailure (of_decide_eq_true hwf))

/-- Settles O5, by the format: each decoder selects an instruction's row from the instruction's own word. -/
theorem decodeOfEncodeIsTheInstruction : Obligations.DecodeOfEncodeIsTheInstruction := by
  unfold Obligations.DecodeOfEncodeIsTheInstruction
  intro cfg ff z i hwf hcond
  cases hi : i.format with
  | hdr =>
    obtain ⟨f, nri, t, hrow, hword⟩ := exists_headerByte hi
    rw [hword, decodeWord_hdr, hrow]
  | cmd =>
    obtain ⟨w, rfl⟩ := exists_decodeCommand hi
    rw [encode_decodeCommand, decodeWord_cmd]
  | src => exact decodeWord_encode_src hi hwf hcond
  | rsp => exact decodeWord_encode_rsp hi hwf ff z

/-! ## The words and items of a response (R86) -/

/-- A response's tag and info (R86). -/
theorem responseWord_eq (cfg : Config) :
    (∀ u, responseWord cfg (.unit u) = 0b00#2 ++ u.header) ∧ responseWord cfg .endOfStream = 0b01#2 ++ 0#8 ∧
    responseWord cfg .notAStream = 0b10#2 ++ 0#8 ∧ ∀ e, responseWord cfg (.sourceReadFailure e) = 0b11#2 ++ failInfo e :=
  ⟨fun u => ofNat_tag_info 0b00#2 u.header, ofNat_tag_info 0b01#2 0#8, ofNat_tag_info 0b10#2 0#8,
    fun e => ofNat_tag_info 0b11#2 (failInfo e)⟩

/-- Settles O8: the word as a number is its tag and info as one. -/
theorem responseWordsCarryTagAndInfo : Obligations.ResponseWordsCarryTagAndInfo := by
  unfold Obligations.ResponseWordsCarryTagAndInfo
  intro cfg
  obtain ⟨hunit, hend, hnas, hfail⟩ := responseWord_eq cfg
  refine ⟨fun u => ?_, hend, hnas, fun e => ?_⟩
  · rw [hunit]
    exact (toNat_tag_info 0b00#2 u.header).trans (Nat.zero_add _)
  · rw [hfail]
    exact toNat_tag_info 0b11#2 (failInfo e)

/-- Settles O58: the header word is the response's tag above its info. -/
theorem responseItemsOnThePort : Obligations.ResponseItemsOnThePort := by
  unfold Obligations.ResponseItemsOnThePort
  intro cfg
  obtain ⟨hunit, hend, hnas, hfail⟩ := responseWord_eq cfg
  exact ⟨fun u => by rw [responseItems, hunit, responseTrailer], by rw [responseItems, hend, responseTrailer],
    by rw [responseItems, hnas, responseTrailer], fun e => by rw [responseItems, hfail, responseTrailer, failInfo]⟩

/-! ## Single words and bytes (R70, R71, R80, R82, R86, R140) -/

/-- Settles O2, on each of the 256 bytes. -/
theorem headerFieldsAreTheMaskedBits : Obligations.HeaderFieldsAreTheMaskedBits := by
  unfold Obligations.HeaderFieldsAreTheMaskedBits
  decide

/-- Settles O4, word by word. -/
theorem specWordsDecode : Obligations.SpecWordsDecode := by
  unfold Obligations.SpecWordsDecode
  decide

end Sys2Proof.Machine
end

section
/-! SUPPORT. Every operation answers a next state, a reserved source word is a read with a fault, and a call that ends the stream
is repeated (spec 30_encoding.md R85, R89; 60_exceptions.md R204, R206, R210). -/

namespace Sys2Proof.Machine

/-! ## Every operation answers (R204, R210) -/

theorem exists_next_ite (c : Prop) [Decidable c] (t u : State) : ∃ v, (if c then .next t else .next u : Result) = .next v := by
  split <;> exact ⟨_, rfl⟩

theorem exec_cmd_next {i : Instr} (hi : i.format = .cmd) (s : State) : ∃ t, exec i s = .next t := by
  cases i <;> cases hi
  case nop => exact ⟨_, rfl⟩
  case nextUnit =>
    change ∃ t, execNextUnit s = .next t
    unfold execNextUnit
    split
    next =>
      split
      next => exact ⟨_, rfl⟩
      next =>
        split
        next => exact ⟨_, rfl⟩
        next => exact ⟨_, rfl⟩
        next => exact ⟨_, rfl⟩
        next => exact exists_next_ite ..
        next => exact exists_next_ite ..
    next => exact ⟨_, rfl⟩
  case reset => exact ⟨_, rfl⟩
  case cmdReserved => exact exists_next_ite ..

theorem exec_src_next {i : Instr} (hi : i.format = .src) (s : State) : ∃ t, exec i s = .next t := by
  obtain rfl | ⟨selected, rule, hrow, _⟩ := exec_src_busyStep hi s
  · exact exists_next_ite ..
  · rw [hrow]
    obtain ⟨_, h⟩ | ⟨_, r, h⟩ | ⟨_, _, t, _, _, h⟩ := busyStep_cases selected rule s <;> exact ⟨_, h⟩

theorem exec_rsp_next {i : Instr} (hi : i.format = .rsp) (s : State) : ∃ t, exec i s = .next t := by
  cases i <;> cases hi
  case rspUnit info => exact exists_next_ite ..
  case rspEndOfStream => exact exists_next_ite ..
  case rspNotAStream => exact exists_next_ite ..
  case rspSourceReadFailure info => exact exists_next_ite ..

/-- Settles O37, by the row's format. -/
theorem noOperationStopsTheMachine : Obligations.NoOperationStopsTheMachine := by
  unfold Obligations.NoOperationStopsTheMachine
  intro i s
  cases hi : i.format with
  | hdr => obtain hrow | ⟨t, f, nri, hrow⟩ := exec_hdr hi <;> exact ⟨_, hrow s⟩
  | cmd => exact exec_cmd_next hi s
  | src => exact exec_src_next hi s
  | rsp => exact exec_rsp_next hi s

/-! ## A reserved source word (R85, R177) -/

/-- Settles O29: the symbol is read and the fault recorded in place of the scanner step. -/
theorem reservedSourceWordFaults : Obligations.ReservedSourceWordFaults := by
  unfold Obligations.ReservedSourceWordFaults
  intro s hb hf
  exact if_pos ((State.reading_iff s).2 ⟨hb, hf⟩)

/-! ## A terminal response repeats (R89, R206) -/

/-- The Decoder state has ended with this response: a further call only repeats it (R172 to R174). -/
inductive EndedWith (t : State) : Response → Prop
  | endOfStream : t.dstate = .exhausted → EndedWith t .endOfStream
  | notAStream : t.dstate = .errored → EndedWith t .notAStream
  | sourceReadFailure : t.dstate = .failed → EndedWith t (.sourceReadFailure t.failValue)

theorem EndedWith.nextUnit_eq {t : State} {r : Response} (h : EndedWith t r) (fuel : Nat) : nextUnit fuel t = .answered t r := by
  cases h with
  | endOfStream hd => rw [nextUnit, hd]
  | notAStream hd => rw [nextUnit, hd]
  | sourceReadFailure hd => rw [nextUnit, hd]

/-- A delivery answers nothing but a UNIT. -/
theorem deliverCall_asUnit {h : Byte} {p : List Byte} {last : Bool} {before s t : State} {r : Response}
    (hc : deliverCall h p last before s = .answered t r) : r.asUnit ≠ none := by
  unfold deliverCall at hc
  split at hc
  next => cases hc
  next => cases hc; nofun

/-- A loop that answers no UNIT leaves the Decoder ended with its answer. -/
theorem nextUnitLoop_endedWith {fuel : Nat} {s t : State} {r : Response} (h : nextUnitLoop fuel s = .answered t r)
    (hr : r.asUnit = none) : EndedWith t r := by
  induction fuel generalizing s with
  | zero => cases h
  | succ fuel ih =>
    unfold nextUnitLoop at h
    split at h
    next => cases h
    next w rest hsource =>
      dsimp only at h
      split at h
      next => cases h
      next sym hsym =>
        split at h
        next => cases h
        next hfault =>
          split at h
          next => exact ih h
          next => exact ih h
          next =>
            split at h
            next => exact ih h
            next => exact absurd hr (deliverCall_asUnit h)
          next => cases h; exact .endOfStream rfl
          next =>
            split at h
            next => cases h; exact .endOfStream rfl
            next => exact absurd hr (deliverCall_asUnit h)
          next => cases h; exact .endOfStream rfl
          next => cases h; exact .notAStream rfl
          next => cases h; exact .sourceReadFailure rfl

/-- A call that answers no UNIT leaves the Decoder ended with its answer. -/
theorem nextUnit_endedWith {fuel : Nat} {s t : State} {r : Response} (h : nextUnit fuel s = .answered t r)
    (hr : r.asUnit = none) : EndedWith t r := by
  have reading (h : (if s.eofSeen then .answered { s with dstate := .exhausted } .endOfStream else nextUnitLoop fuel s) =
      CallResult.answered t r) : EndedWith t r := by
    split at h
    next => cases h; exact .endOfStream rfl
    next => exact nextUnitLoop_endedWith h hr
  unfold nextUnit at h
  split at h
  next hd => cases h; exact .endOfStream hd
  next hd => cases h; exact .notAStream hd
  next hd => cases h; exact .sourceReadFailure hd
  next => exact reading h
  next => exact reading h

/-- Settles O55: such a call leaves the Decoder ended with its response, and a further call repeats it. -/
theorem terminalResponseRepeats : Obligations.TerminalResponseRepeats := by
  unfold Obligations.TerminalResponseRepeats
  exact fun fuel fuel' s t r h hr => (nextUnit_endedWith h hr).nextUnit_eq fuel'

end Sys2Proof.Machine
end

section
/-! SUPPORT. No committed or delivered slice holds a start code (spec 40_scanner.md R122; 30_encoding.md R75, R87): start codes at the
end of a byte list, then what each operation needs to keep the payload invariant, then every step. -/

namespace Sys2Proof.Machine

/-! ## Start codes as part of a byte list (R75) -/

/-- A list holds a start code when 0x00 0x00 0x01 is somewhere in it: further zeros before them change nothing. -/
theorem hasStartCode_iff_infix (l : List Byte) : hasStartCode l = true ↔ [0x00#8, 0x00#8, 0x01#8] <:+: l := by
  induction l with
  | nil => simp [hasStartCode]
  | cons b l ih =>
    have hprefix : [0x00#8, 0x01#8] <+: l ↔ l.take 2 = [0x00#8, 0x01#8] := List.prefix_iff_eq_take.trans eq_comm
    simp only [hasStartCode, Bool.or_eq_true, Bool.and_eq_true, beq_iff_eq, ih, List.infix_cons_iff, List.cons_prefix_cons, hprefix,
      eq_comm (a := b)]

/-- A byte completes a start code only if it is 0x01 behind two zeros. -/
theorem hasStartCode_concat (l : List Byte) (b : Byte) :
    hasStartCode (l ++ [b]) = true ↔ (b = 0x01#8 ∧ [0x00#8, 0x00#8] <:+ l) ∨ hasStartCode l = true := by
  have hend : [0x00#8, 0x00#8] ++ [0x01#8] <:+ l ++ [b] ↔ [0x00#8, 0x00#8] <:+ l ∧ [0x01#8] = [b] :=
    List.suffix_append_inj_of_length_eq rfl
  rw [hasStartCode_iff_infix, hasStartCode_iff_infix, List.infix_concat_iff]
  refine or_congr_left (hend.trans ?_)
  rw [List.singleton_inj, and_comm, eq_comm]

theorem zeros_succ (n : Nat) : zeros (n + 1) = zeros n ++ [0x00#8] := List.replicate_succ'

/-- Zeros complete no start code. -/
theorem hasStartCode_append_zeros {l : List Byte} (h : hasStartCode l = false) (n : Nat) : hasStartCode (l ++ zeros n) = false := by
  induction n with
  | zero => simpa [zeros] using h
  | succ n ih =>
    rw [zeros_succ, ← List.append_assoc, Bool.eq_false_iff, Ne, hasStartCode_concat]
    simp [ih]

/-- Behind a list that does not end in a zero, fewer than two zeros are not two. -/
theorem not_twoZeros_suffix {l : List Byte} (hend : l.getLast? ≠ some 0x00#8) {n : Nat} (hn : n < 2) :
    ¬ [0x00#8, 0x00#8] <:+ l ++ zeros n := by
  have zero_end {m : List Byte} (h : m ++ [0x00#8] <:+ l) : False := by
    obtain ⟨k, rfl⟩ := h
    exact hend (by simp)
  intro h
  obtain rfl | rfl : n = 0 ∨ n = 1 := by omega
  · exact zero_end (m := [0x00#8]) (by simpa [zeros] using h)
  · exact zero_end (m := []) (List.suffix_append_self_iff (l₁ := [0x00#8]).1 h)

/-- A committed byte completes no start code: 0x01 is committed after fewer than two pending zeros only (R112, R113). -/
theorem hasStartCode_commit {l : List Byte} (hcode : hasStartCode l = false) (hend : l.getLast? ≠ some 0x00#8) {n : Nat} {b : Byte}
    (hone : b = 0x01#8 → n < 2) : hasStartCode (l ++ (zeros n ++ [b])) = false := by
  rw [← List.append_assoc, Bool.eq_false_iff, Ne, hasStartCode_concat]
  rintro (⟨hb, hzeros⟩ | h)
  · exact not_twoZeros_suffix hend (hone hb) hzeros
  · rw [hasStartCode_append_zeros hcode] at h
    cases h

/-! ## Keeping the payload invariant -/

/-- The unit of a slice whose header byte is no SEI byte and that holds no start code is right (R87). -/
theorem unitOk_unitOf {h : Byte} {p : List Byte} (hsei : isSei h = false) (hcode : hasStartCode (h :: p) = false) (index : Nat) :
    UnitOk (unitOf h p index) :=
  ⟨rfl, rfl, rfl, rfl, rfl, (isSei_eq_false h).1 hsei, hcode⟩

section

variable {s t : State}

theorem PayloadInv.srcRead (h : PayloadInv s) : PayloadInv s.srcRead := h

theorem PayloadInv.raiseFault (h : PayloadInv s) (r : FaultReason) : PayloadInv (s.raiseFault r) := h

/-- Emitting a response that is no UNIT keeps the payloads. -/
theorem PayloadInv.emit (h : PayloadInv s) {r : Response} (hr : r.asUnit = none) : PayloadInv (s.emit r) := by
  unfold PayloadInv
  rw [State.units_append_none (State.emit_out s r) hr]
  exact h

theorem PayloadInv.enterTerminal (h : PayloadInv s) (sig : Signal) : PayloadInv (s.enterTerminal sig) := by
  simpa [PayloadInv] using h

/-- A new reader has committed and delivered nothing (R34). -/
theorem PayloadInv.construct (s : State) : PayloadInv s.construct := ⟨rfl, nofun, nofun⟩

/-- An empty slice may take the place of the current one, in either phase. -/
theorem PayloadInv.clearSlice (h : PayloadInv s) (ff : Bool) : PayloadInv { s with foundFirst := ff, slice := [], zrun := 0 } :=
  have ⟨_, _, hunits⟩ := h
  ⟨rfl, nofun, hunits⟩

/-- Committing the pending zeros and a byte that is no zero keeps the slice whole (R112, R113). -/
theorem PayloadInv.commit (h : PayloadInv s) {b : Byte} (hb : b ≠ 0x00#8) (hone : b = 0x01#8 → s.zrun < 2) :
    PayloadInv { s with slice := s.slice ++ (zeros s.zrun ++ [b]), zrun := 0 } :=
  have ⟨hcode, hend, hunits⟩ := h
  ⟨hasStartCode_commit hcode hend hone, by simpa [← List.append_assoc] using hb, hunits⟩

/-- Delivering a right unit keeps the units right. -/
theorem PayloadInv.delivered (h : PayloadInv s) {u : NalUnit} (hu : UnitOk u) (q : Nat) (d : DState) (eof busy : Bool) :
    PayloadInv { s with out := s.out ++ [.unit u], seq := q, dstate := d, eofSeen := eof, busy := busy } := by
  obtain ⟨hcode, hend, hunits⟩ := h
  refine ⟨hcode, hend, ?_⟩
  rw [State.units_append_unit (s := s) rfl]
  exact List.forall_mem_append.2 ⟨hunits, List.forall_mem_singleton.2 hu⟩

/-- Every command keeps the payloads whole. -/
theorem PayloadInv.command {w : BitVec 2} (h : PayloadInv s) (hs : exec (decodeCommand w) s = .next t) : PayloadInv t := by
  rcases exec_cmd_change hs with rfl | ⟨_, rfl⟩ | ⟨_, ⟨_, _, rfl⟩ | ⟨_, rfl⟩ | ⟨_, _, _, _, rfl⟩ | ⟨_, _, _, _, rfl⟩ |
    ⟨_, _, _, rfl⟩ | ⟨_, _, _, rfl⟩ | ⟨_, _, _, rfl⟩⟩
  · exact h
  · exact PayloadInv.construct s
  · exact h.raiseFault _
  · exact h.raiseFault _
  · exact h
  · exact h.enterTerminal _
  · exact h.emit rfl
  · exact h.emit rfl
  · exact h.emit rfl

/-- Every enabled busy step keeps the payloads whole: what is delivered is the slice, with the pending zeros at end of input. -/
theorem PayloadInv.readChange (h : PayloadInv s) (hc : ReadChange s t) : PayloadInv t := by
  have hread := h.srcRead
  have ⟨hcode, _, _⟩ := h
  cases hc with
  | fault r => exact hread.raiseFault r
  | zero => exact hread
  | firstStart _ _ => exact hread.clearSlice true
  | notAStream _ => exact hread.enterTerminal _
  | empty _ _ => exact hread.enterTerminal _
  | fail e => exact hread.enterTerminal _
  | payload b _ hb hone _ => exact hread.commit hb hone
  | skip _ _ => exact hread.clearSlice s.foundFirst
  | deliver g p _ _ hslice hsei _ =>
    exact (hread.clearSlice s.foundFirst).delivered (unitOk_unitOf hsei (hslice ▸ hcode) s.seq) _ _ _ _
  | lastEnds _ _ => exact (hread.clearSlice s.foundFirst).enterTerminal _
  | lastDelivered g p _ _ hlast hsei _ =>
    have hwhole := hasStartCode_append_zeros hcode s.zrun
    exact (hread.clearSlice s.foundFirst).delivered (unitOk_unitOf hsei (hlast ▸ hwhole) s.seq) _ _ _ _

end

/-- Settles O51: moves of the environment, commands and busy steps all keep the payloads whole. -/
theorem stepKeepsPayloadsWhole : Obligations.StepKeepsPayloadsWhole := by
  unfold Obligations.StepKeepsPayloadsWhole
  intro s t h hwire hs
  exact step_keeps (fun _ _ _ h => h) (fun _ _ _ => PayloadInv.command) (fun _ _ h _ => PayloadInv.readChange h) h hwire hs

end Sys2Proof.Machine
end

section
/-! SUPPORT. The rules of the Scanner (spec 40_scanner.md R101 to R115) as SRC rows inside a request, and which row a source word
selects (R121). -/

namespace Sys2Proof.Machine

/-! ## The row of a source word (R82 to R85, R121) -/

/-- A row that a source word may select in this build, phase and zero count. -/
structure Selectable (cfg : Config) (ff : Bool) (z : Nat) (i : Instr) : Prop where
  format : i.format = .src
  rowCondition : i.rowCondition ff z = true
  wellFormed : i.wellFormed cfg = true

section

variable (cfg : Config) (z : Nat)

theorem otherSeekFirst_selectable (b : Byte) : Selectable cfg false z (otherSeekFirst b) := by
  unfold otherSeekFirst
  split_ifs <;> exact ⟨rfl, rfl, rfl⟩

theorem otherInUnit_selectable (b : Byte) : Selectable cfg true z (otherInUnit b) := by
  unfold otherInUnit
  split_ifs <;> exact ⟨rfl, rfl, rfl⟩

theorem oneRow_selectable (ff : Bool) : Selectable cfg ff z (byteRow ff z 0x01#8) := by
  by_cases hz : 2 ≤ z
  · have hrow : byteRow ff z 0x01#8 = if ff then .byteOneInUnitDelim else .byteOneSeekFirstStart := by simp [byteRow, hz]
    rw [hrow]
    cases ff <;> exact ⟨rfl, decide_eq_true hz, rfl⟩
  · have hrow : byteRow ff z 0x01#8 = if ff then .byteOneInUnitPayload else .byteOneSeekFirstNas := by simp [byteRow, hz]
    have hfew : decide (z < 2) = true := decide_eq_true (Nat.lt_of_not_le hz)
    rw [hrow]
    cases ff <;> exact ⟨rfl, hfew, rfl⟩

/-- A byte's row is selected by its class, the phase and, for 0x01, whether there are two zeros. -/
theorem byteRow_selectable (ff : Bool) (b : Byte) : Selectable cfg ff z (byteRow ff z b) := by
  by_cases h0 : b = 0x00#8
  · subst h0
    cases ff <;> exact ⟨rfl, rfl, rfl⟩
  · by_cases h1 : b = 0x01#8
    · subst h1
      exact oneRow_selectable cfg z ff
    · rw [byteRow_other h0 h1]
      cases ff
      · exact otherSeekFirst_selectable cfg z b
      · exact otherInUnit_selectable cfg z b

theorem eofRow_selectable (ff : Bool) : Selectable cfg ff z (symbolRow ff z .eof) := by
  cases ff
  · by_cases hz : z = 0
    · subst hz
      exact ⟨rfl, rfl, rfl⟩
    · have hrow : symbolRow false z .eof = .eofSeekFirstNas := by simp [symbolRow, hz]
      rw [hrow]
      exact ⟨rfl, decide_eq_true (Nat.pos_of_ne_zero hz), rfl⟩
  · exact ⟨rfl, rfl, rfl⟩

theorem failRow_selectable (ff : Bool) {e : SrcErr} (he : e < 2 ^ cfg.errW) : Selectable cfg ff z (symbolRow ff z (.fail e)) := by
  cases ff <;> exact ⟨rfl, rfl, decide_eq_true he⟩

end

/-- Settles O6, by the word's tag: a byte, end of input, a failure with its code cut to ERR_W bits, or a reserved word. -/
theorem sourceWordSelectsOneRow : Obligations.SourceWordSelectsOneRow := by
  unfold Obligations.SourceWordSelectsOneRow
  intro cfg ff z w
  have selected : Selectable cfg ff z (decodeSource cfg ff z w) := by
    have reserved (h : w.symbol cfg = none) : Selectable cfg ff z (decodeSource cfg ff z w) :=
      decodeSource_of_no_symbol (ff := ff) (z := z) h ▸ ⟨rfl, rfl, rfl⟩
    obtain ht | ht | ht | ht := bitVec2_cases w.tag
    · obtain hd | hd := Nat.lt_or_ge (w.dataField cfg) 256
      · exact decodeSource_of_symbol (SrcWord.symbol_byte ht hd) ▸ byteRow_selectable cfg z ff _
      · exact reserved (SrcWord.symbol_wideByte ht hd)
    · exact decodeSource_of_symbol (SrcWord.symbol_eof ht) ▸ eofRow_selectable cfg z ff
    · exact decodeSource_of_symbol (SrcWord.symbol_fail ht) ▸ failRow_selectable cfg z ff (Nat.mod_lt _ (Nat.two_pow_pos _))
    · exact reserved (SrcWord.symbol_reservedTag ht)
  exact ⟨selected.format, selected.rowCondition, selected.wellFormed⟩

/-! ## The busy step of each rule, all fields written out (R177) -/

theorem State.fits_eq_false (s : State) (n : Nat) :
    s.fits n = false ↔ ∃ cap ∈ s.cfg.maxNalBytes, cap < s.slice.length + n := by
  rw [Bool.eq_false_iff, Ne, State.fits_iff]
  push Not
  rfl

theorem State.seqFull_iff (s : State) : s.seqFull = true ↔ ∃ w ∈ s.cfg.seqW, 2 ^ w ≤ s.seq := by
  rw [← Bool.not_eq_false, State.seqFull_eq_false]
  push Not
  rfl

section

variable {selected : State → Bool} {s : State} (hb : s.busy = true) (hf : s.fault = none) (hsel : selected s = true)
include hb hf

theorem State.reading_of_busy : s.reading = true := (State.reading_iff s).2 ⟨hb, hf⟩

include hsel

theorem busyStep_scanZero : busyStep selected scanZero s =
    .next { s with pos := s.pos + 1, source := s.source.tail, event := none, zrun := s.zrun + 1 } :=
  busyStep_quiet (State.reading_of_busy hb hf) hsel hf rfl

/-- The initial-boundary check failed: NOT_A_STREAM (R151). -/
theorem busyStep_scanNotAStream : busyStep selected scanNotAStream s =
    .next
      { s with
        pos := s.pos + 1, source := s.source.tail, event := none, dstate := .errored, busy := false,
        out := s.out ++ [.notAStream] } :=
  busyStep_notAStream (State.reading_of_busy hb hf) hsel

/-- The source's failure is passed on and its code recorded (R153). -/
theorem busyStep_scanFail (e : SrcErr) : busyStep selected (scanFail e) s =
    .next
      { s with
        pos := s.pos + 1, source := s.source.tail, event := none, dstate := .failed, failCode := some e, busy := false,
        out := s.out ++ [.sourceReadFailure e] } := by
  rw [busyStep_fail e (State.reading_of_busy hb hf) hsel, State.enterTerminal_sourceReadFailure]
  rfl

/-- The pending zeros and the byte join the slice where they fit MAX_NAL_BYTES; else only the read and the fault are written
(R120). -/
theorem busyStep_scanPayload (b : Byte) :
    ((∀ cap ∈ s.cfg.maxNalBytes, s.slice.length + (s.zrun + 1) ≤ cap) → busyStep selected (scanPayload b) s =
      .next
        { s with
          pos := s.pos + 1, source := s.source.tail, event := none, slice := s.slice ++ (zeros s.zrun ++ [b]), zrun := 0 }) ∧
    ((∃ cap ∈ s.cfg.maxNalBytes, cap < s.slice.length + (s.zrun + 1)) → busyStep selected (scanPayload b) s =
      .next { s with pos := s.pos + 1, source := s.source.tail, event := none, fault := some .capacityExceeded }) := by
  rw [← State.fits_iff, ← State.fits_eq_false]
  obtain ⟨hfits, h⟩ | ⟨hfull, h⟩ := busyStep_payload b (State.reading_of_busy hb hf) hsel
  · exact ⟨fun _ => h, fun hfull => absurd hfits (Bool.eq_false_iff.1 hfull)⟩
  · exact ⟨fun hfits => absurd hfits (Bool.eq_false_iff.1 hfull), fun _ => h⟩

end

/-! ## Phase SEEK_FIRST (R101 to R107) -/

section

variable {s : State} (hff : s.foundFirst = false)
include hff

theorem State.seekFirst_of_not_foundFirst : s.seekFirst = true := by
  rw [State.seekFirst, hff, Bool.not_false]

theorem State.seekFirst_and {c : Bool} (hc : c = true) : (s.seekFirst && c) = true :=
  Bool.and_eq_true_iff.2 ⟨State.seekFirst_of_not_foundFirst hff, hc⟩

end

/-- Settles O17: the rule of the first start code reports nothing, so the request goes on. -/
theorem firstStartCodeOpensTheUnit : Obligations.FirstStartCodeOpensTheUnit := by
  unfold Obligations.FirstStartCodeOpensTheUnit
  intro s hb hf hff hz
  have hsel : (s.seekFirst && s.zerosReady) = true := State.seekFirst_and hff (decide_eq_true hz)
  exact busyStep_quiet (selected := fun s => s.seekFirst && s.zerosReady) (State.reading_of_busy hb hf) hsel hf rfl

/-- Settles O18: the row's condition holds, and its rule fails the initial-boundary check. -/
theorem earlyOneIsNotAStream : Obligations.EarlyOneIsNotAStream := by
  unfold Obligations.EarlyOneIsNotAStream
  intro s hb hf hff hz
  have hfew : (!s.zerosReady) = true := by rw [State.zerosReady, decide_eq_false (Nat.not_le_of_lt hz), Bool.not_false]
  exact busyStep_scanNotAStream (selected := fun s => s.seekFirst && !s.zerosReady) hb hf (State.seekFirst_and hff hfew)

/-- Settles O19: the seven rows run the same rule, under the same condition, whatever the operand. -/
theorem earlyOtherByteIsNotAStream : Obligations.EarlyOtherByteIsNotAStream := by
  unfold Obligations.EarlyOtherByteIsNotAStream
  intro s hb hf hff b1 b2 b3 b4 b5 b6 b7
  have row := busyStep_scanNotAStream hb hf (State.seekFirst_of_not_foundFirst hff)
  simp only [List.forall_mem_cons]
  exact ⟨row, row, row, row, row, row, row, nofun⟩

/-- Settles O20: the Decoder answers the empty input with END_OF_STREAM. -/
theorem emptyInputEndsTheStream : Obligations.EmptyInputEndsTheStream := by
  unfold Obligations.EmptyInputEndsTheStream
  intro s hb hf hff hz
  have hsel : (s.seekFirst && decide (s.zrun = 0)) = true := State.seekFirst_and hff (decide_eq_true hz)
  exact busyStep_empty (selected := fun s => s.seekFirst && decide (s.zrun = 0)) (State.reading_of_busy hb hf) hsel

/-- Settles O21: the row's condition holds, and its rule fails the initial-boundary check. -/
theorem zerosThenEofIsNotAStream : Obligations.ZerosThenEofIsNotAStream := by
  unfold Obligations.ZerosThenEofIsNotAStream
  intro s hb hf hff hz
  have hsel : (s.seekFirst && decide (0 < s.zrun)) = true := State.seekFirst_and hff (decide_eq_true hz)
  exact busyStep_scanNotAStream (selected := fun s => s.seekFirst && decide (0 < s.zrun)) hb hf hsel

/-! ## Either phase (R101, R107, R110, R115) -/

/-- Settles O16: both rows run the rule that counts a zero, each in its phase. -/
theorem zeroByteIsCounted : Obligations.ZeroByteIsCounted := by
  unfold Obligations.ZeroByteIsCounted
  intro s hb hf
  constructor
  · exact fun hff => busyStep_scanZero (selected := State.seekFirst) hb hf (State.seekFirst_of_not_foundFirst hff)
  · exact busyStep_scanZero (selected := State.inUnit) hb hf

/-- Settles O22: both rows run the rule that reports the failure, each in its phase. -/
theorem readFailureIsPropagated : Obligations.ReadFailureIsPropagated := by
  unfold Obligations.ReadFailureIsPropagated
  intro s e hb hf
  constructor
  · exact fun hff => busyStep_scanFail (selected := State.seekFirst) hb hf (State.seekFirst_of_not_foundFirst hff) e
  · exact fun hff => busyStep_scanFail (selected := State.inUnit) hb hf hff e

/-! ## Phase IN_UNIT (R111 to R114) -/

/-- Settles O24: 0x01 is payload like any other byte where it ends no slice. -/
theorem earlyOneInAUnitIsPayload : Obligations.EarlyOneInAUnitIsPayload := by
  unfold Obligations.EarlyOneInAUnitIsPayload
  intro s hb hf hff hz
  have hsel : (s.inUnit && !s.zerosReady) = true := by simp [State.inUnit, State.zerosReady, hff, hz]
  exact busyStep_scanPayload (selected := fun s => s.inUnit && !s.zerosReady) hb hf hsel 0x01#8

/-- Settles O25: the seven rows run the rule of a payload byte, each with the byte of its own range. -/
theorem otherByteInAUnitIsPayload : Obligations.OtherByteInAUnitIsPayload := by
  unfold Obligations.OtherByteInAUnitIsPayload
  intro s hb hf hff b1 b2 b3 b4 b5 b6 b7
  have row := busyStep_scanPayload (selected := State.inUnit) hb hf hff
  simp only [List.forall_mem_cons]
  exact ⟨row (rangeByte 0x02 b1), row (rangeByte 0x04 b2), row (rangeByte 0x08 b3), row (rangeByte 0x10 b4),
    row (rangeByte 0x20 b5), row (rangeByte 0x40 b6), row (rangeByte 0x80 b7), nofun⟩

/-- Settles O27: the commit of the pending zeros faults. -/
theorem eofBeyondCapacityFaults : Obligations.EofBeyondCapacityFaults := by
  unfold Obligations.EofBeyondCapacityFaults
  intro s hb hf hff hfull
  rw [← State.fits_eq_false] at hfull
  obtain ⟨_, e⟩ | ⟨hfits, _⟩ := busyStep_last (selected := State.inUnit) (State.reading_of_busy hb hf) hff
  · exact e
  · cases hfits.symm.trans hfull

section

variable {selected : State → Bool} {s : State} (hr : s.reading = true) (hsel : selected s = true)
include hr hsel

/-- A delimiter skips an empty slice and an SEI slice (R144, R145). -/
theorem busyStep_delimiter_skip (h : ∀ g p, s.slice = g :: p → isSei g = true) :
    busyStep selected scanDelimiter s = .next { s.srcRead with slice := [], zrun := 0 } := by
  obtain ⟨_, e⟩ | ⟨g, p, hs, hsei, _⟩ := busyStep_delimiter hr hsel
  · exact e
  · cases (h g p hs).symm.trans hsei

/-- A delimiter delivers any other slice, where its index fits SEQ_W (R146, R152). -/
theorem busyStep_delimiter_deliver {g : Byte} {p : List Byte} (hs : s.slice = g :: p) (hsei : isSei g = false) :
    (s.seqFull = false ∧ busyStep selected scanDelimiter s =
      .next { s.srcRead with
        slice := [], zrun := 0, out := s.out ++ [.unit (unitOf g p s.seq)], seq := s.seq + 1, dstate := .streaming,
        busy := false }) ∨
    (s.seqFull = true ∧ busyStep selected scanDelimiter s = .next (s.srcRead.raiseFault .seqOverflow)) := by
  obtain ⟨hnil | ⟨g', p', hs', hsei'⟩, _⟩ | ⟨g', p', hs', _, e⟩ := busyStep_delimiter hr hsel
  · cases hs.symm.trans hnil
  · cases hs.symm.trans hs'
    cases hsei.symm.trans hsei'
  · cases hs.symm.trans hs'
    exact e

end

/-- Settles O23, by the slice that the delimiter ends: skipped when empty or SEI, delivered or faulted else. -/
theorem delimiterEndsTheSlice : Obligations.DelimiterEndsTheSlice := by
  unfold Obligations.DelimiterEndsTheSlice
  intro s hb hf hff hz
  have hr := State.reading_of_busy hb hf
  have hsel : (s.inUnit && s.zerosReady) = true := Bool.and_eq_true_iff.2 ⟨hff, decide_eq_true hz⟩
  have skip := busyStep_delimiter_skip (selected := fun s => s.inUnit && s.zerosReady) hr hsel
  have deliver {g : Byte} {p : List Byte} (hs : s.slice = g :: p) (htype : headerType g ≠ 6#5) :=
    busyStep_delimiter_deliver (selected := fun s => s.inUnit && s.zerosReady) hr hsel hs ((isSei_eq_false g).2 htype)
  refine ⟨fun hnil => skip fun g p hs => ?_, fun g p hs htype => skip fun g' p' hs' => ?_, fun g p hs htype hroom => ?_,
    fun g p hs htype hfull => ?_⟩
  · cases hnil.symm.trans hs
  · cases hs.symm.trans hs'
    exact (isSei_iff g).2 htype
  · rw [← State.seqFull_eq_false] at hroom
    obtain ⟨_, e⟩ | ⟨hfull, _⟩ := deliver hs htype
    · exact e
    · cases hroom.symm.trans hfull
  · rw [← State.seqFull_iff] at hfull
    obtain ⟨hroom, _⟩ | ⟨_, e⟩ := deliver hs htype
    · cases hroom.symm.trans hfull
    · exact e

end Sys2Proof.Machine
end

section
/-! SUPPORT. The NAL Decoder (spec 41_nal_decoder.md R140 to R155): the header rows run on the slice on the wire, end of input in a
unit, the numbering of the units, and the Decoder's states. -/

namespace Sys2Proof.Machine

/-! ## The index of each unit (R25, R154) -/

section

variable {s t : State}

/-- Where no unit is delivered no index is taken. -/
theorem SequenceInv.congr (h : SequenceInv s) (hunits : t.units = s.units) (hseq : t.seq = s.seq) : SequenceInv t := by
  unfold SequenceInv
  rw [hunits, hseq]
  exact h

/-- A delivered unit takes the index `seq`, and `seq` moves on. -/
theorem SequenceInv.delivered (h : SequenceInv s) {u : NalUnit} (hindex : u.sequenceIndex = s.seq) (hout : t.out = s.out ++ [.unit u])
    (hseq : t.seq = s.seq + 1) : SequenceInv t := by
  unfold SequenceInv
  rw [State.units_append_unit hout, List.map_append, h, hseq, List.range_succ, List.map_singleton, hindex]

theorem SequenceInv.emit (h : SequenceInv s) {r : Response} (hr : r.asUnit = none) : SequenceInv (s.emit r) :=
  h.congr (State.units_append_none (State.emit_out s r) hr) rfl

theorem SequenceInv.enterTerminal (h : SequenceInv s) (sig : Signal) : SequenceInv (s.enterTerminal sig) :=
  h.congr (State.enterTerminal_units sig s) (State.enterTerminal_seq sig s)

/-- Deliver numbers its unit, or faults and gives none (R152). -/
theorem SequenceInv.deliver (h : SequenceInv s) (b : Byte) (last : Bool) : SequenceInv (s.deliver b last) := by
  obtain ⟨_, e⟩ | ⟨_, e⟩ := State.deliver_cases b last s <;> rw [e]
  · exact h.delivered (u := unitOf b _ s.seq) rfl rfl rfl
  · exact h

/-- A new reader has given no unit, and numbers from 0 (R34). -/
theorem SequenceInv.construct (s : State) : SequenceInv s.construct := rfl

/-- The row of a header byte on the wire keeps the numbering. -/
theorem SequenceInv.header {b : Byte} (h : SequenceInv s) (hw : s.waitingHeader = some b) (hs : step s = .next t) : SequenceInv t := by
  obtain ⟨_, ⟨p, _, e⟩ | ⟨p, _, e⟩⟩ := step_header_change hw <;> rw [e] at hs <;> cases hs <;> cases isSei b
  · exact h.deliver b false
  · exact h
  · exact h.deliver b true
  · exact h.enterTerminal .endOfStream

/-- Every command keeps the numbering: RESET starts it over, and the others give no unit. -/
theorem SequenceInv.command {w : BitVec 2} (h : SequenceInv s) (hs : exec (decodeCommand w) s = .next t) : SequenceInv t := by
  rcases exec_cmd_change hs with rfl | ⟨_, rfl⟩ | ⟨_, ⟨_, _, rfl⟩ | ⟨_, rfl⟩ | ⟨_, _, _, _, rfl⟩ | ⟨_, _, _, _, rfl⟩ |
    ⟨_, _, _, rfl⟩ | ⟨_, _, _, rfl⟩ | ⟨_, _, _, rfl⟩⟩
  · exact h
  · exact SequenceInv.construct s
  · exact h
  · exact h
  · exact h
  · exact h.enterTerminal .endOfStream
  · exact h.emit rfl
  · exact h.emit rfl
  · exact h.emit rfl

/-- Every enabled busy step keeps the numbering: a skipped slice and a terminal signal take no index (R60). -/
theorem SequenceInv.readChange (h : SequenceInv s) (hc : ReadChange s t) : SequenceInv t := by
  have hread : SequenceInv s.srcRead := h
  cases hc with
  | fault r => exact h
  | zero => exact h
  | firstStart _ _ => exact h
  | notAStream _ => exact hread.enterTerminal .notAStream
  | empty _ _ => exact hread.enterTerminal .endOfStream
  | fail e => exact hread.enterTerminal (.sourceReadFailure e)
  | payload b _ _ _ _ => exact h
  | skip _ _ => exact h
  | deliver g p _ _ _ _ _ => exact h.delivered (u := unitOf g p s.seq) rfl rfl rfl
  | lastEnds _ _ => exact SequenceInv.enterTerminal (s := { s.srcRead with slice := [], zrun := 0 }) h .endOfStream
  | lastDelivered g p _ _ _ _ _ => exact h.delivered (u := unitOf g p s.seq) rfl rfl rfl

end

/-- Settles O50: a header row on the wire, a move of the environment, a command and a busy step all keep the numbering. -/
theorem stepKeepsSequenceNumbers : Obligations.StepKeepsSequenceNumbers := by
  unfold Obligations.StepKeepsSequenceNumbers
  intro s t h hs
  cases hw : s.waitingHeader with
  | some b => exact h.header hw hs
  | none =>
    rcases step_change hw hs with ⟨w, rest, _, hc⟩ | ⟨ws, rest, _, rfl⟩ | ⟨rest, _, rfl | ⟨_, _, hc⟩⟩
    · exact SequenceInv.command (s := { s with inputs := rest }) h hc
    · exact h
    · exact h
    · exact SequenceInv.readChange (s := { s with inputs := rest }) h hc

/-! ## Header rows on the slice on the wire (R140 to R149, R152) -/

/-- With no non-empty slice for the Decoder inside a request, no header byte waits. -/
theorem State.waitingHeader_eq_none {s : State} (h : s.busy = false ∨ s.fault ≠ none ∨ eventSlice s.event = []) :
    s.waitingHeader = none := by
  rw [← or_assoc, ← State.reading_eq_false] at h
  obtain hr | he := h
  · simp [State.waitingHeader, hr]
  · simp [State.waitingHeader, eventHeader, he]

/-- Settles O32: the SEI row and the delivery rows both need a header byte that waits. -/
theorem headerRowWithoutASliceHasNoEffect : Obligations.HeaderRowWithoutASliceHasNoEffect := by
  unfold Obligations.HeaderRowWithoutASliceHasNoEffect
  intro i s hi h
  have hw := State.waitingHeader_eq_none h
  obtain hrow | ⟨t, f, nri, hrow⟩ := exec_hdr hi
  · rw [hrow, filterRow_idle hw]
  · rw [hrow, deliverRow_idle hw]

/-- Settles O28: the row is the delivery row of its type, and Deliver faults whatever ended the slice. -/
theorem headerRowWithFullIndexFaults : Obligations.HeaderRowWithFullIndexFaults := by
  unfold Obligations.HeaderRowWithFullIndexFaults
  intro s h g t hb hf hfull htype he
  have hr := State.reading_of_busy hb hf
  rw [← State.seqFull_iff] at hfull
  rw [exec_decodeHeader, execHeader_eq, (isSei_eq_false h).2 htype, if_neg Bool.false_ne_true]
  obtain he | he := he
  · rw [deliverRow_slice hr he, State.deliver_of_full hfull]
    rfl
  · rw [deliverRow_last hr he, State.deliver_of_full hfull]
    rfl

/-- Settles O31: the row ignores F and NRI, skips a slice that a start code ended and ends the stream at the last one. -/
theorem seiIsFiltered : Obligations.SeiIsFiltered := by
  unfold Obligations.SeiIsFiltered
  intro s f nri g t hb hf
  have hr := State.reading_of_busy hb hf
  exact ⟨fun he => congrArg _ (filterRow_slice hr he), fun he => congrArg _ (filterRow_last hr he)⟩

/-- The unit that a delivery row makes of its operands and the rest of the slice (R87, R141 to R143). -/
theorem unitOf_headerByte (f : Bool) (nri : BitVec 2) (ty : BitVec 5) (p : List Byte) (index : Nat) :
    unitOf (headerByte f nri ty) p index =
      { payload := headerByte f nri ty :: p, length := p.length + 1, header := headerByte f nri ty, forbiddenBit := f,
        referenceIdc := nri, unitType := ty, sequenceIndex := index } := by
  rw [unitOf, headerF_headerByte, headerNri_headerByte, headerType_headerByte, List.length_cons]

/-- Settles O30: each row is the delivery row of its type, which delivers the slice whatever ended it. -/
theorem deliveredTypesEmitTheUnit : Obligations.DeliveredTypesEmitTheUnit := by
  unfold Obligations.DeliveredTypesEmitTheUnit
  intro s f nri g t hb hf hroom r hrow
  have hexec : exec r.1 s = .next (deliverRow r.2 f nri s) := by fin_cases hrow <;> rfl
  have hr := State.reading_of_busy hb hf
  rw [← State.seqFull_eq_false] at hroom
  rw [hexec, ← unitOf_headerByte]
  constructor <;> intro he
  · rw [deliverRow_slice hr he, State.deliver_of_room hroom, he, Bool.or_false]
    rfl
  · rw [deliverRow_last hr he, State.deliver_of_room hroom, he, Bool.or_true]
    rfl

/-! ## End of input in a unit (R147 to R149) -/

section

variable {selected : State → Bool} {s : State} (hr : s.reading = true) (hsel : selected s = true) (hfits : s.fits s.zrun = true)
include hr hsel hfits

/-- An empty last slice and an SEI one end the stream (R147, R148). -/
theorem busyStep_last_ends (h : ∀ g p, s.slice ++ zeros s.zrun = g :: p → isSei g = true) :
    busyStep selected scanLast s = .next (State.enterTerminal .endOfStream { s.srcRead with slice := [], zrun := 0 }) := by
  obtain ⟨hfull, _⟩ | ⟨_, ⟨_, e⟩ | ⟨g, p, hs, hsei, _⟩⟩ := busyStep_last hr hsel
  · cases hfits.symm.trans hfull
  · exact e
  · cases (h g p hs).symm.trans hsei

/-- Any other last slice is delivered, where its index fits SEQ_W (R149, R152). -/
theorem busyStep_last_deliver {g : Byte} {p : List Byte} (hs : s.slice ++ zeros s.zrun = g :: p) (hsei : isSei g = false) :
    (s.seqFull = false ∧ busyStep selected scanLast s =
      .next { s.srcRead with
        slice := [], zrun := 0, out := s.out ++ [.unit (unitOf g p s.seq)], seq := s.seq + 1, dstate := .streaming,
        eofSeen := true, busy := false }) ∨
    (s.seqFull = true ∧ busyStep selected scanLast s = .next (s.srcRead.raiseFault .seqOverflow)) := by
  obtain ⟨hfull, _⟩ | ⟨_, ⟨hnil | ⟨g', p', hs', hsei'⟩, _⟩ | ⟨g', p', hs', _, e⟩⟩ := busyStep_last hr hsel
  · cases hfits.symm.trans hfull
  · cases hs.symm.trans hnil
  · cases hs.symm.trans hs'
    cases hsei.symm.trans hsei'
  · cases hs.symm.trans hs'
    exact e

end

/-- Settles O26, by the last slice: the stream ends when it is empty or SEI, else it is delivered or faults. -/
theorem eofEndsTheLastSlice : Obligations.EofEndsTheLastSlice := by
  unfold Obligations.EofEndsTheLastSlice
  intro s hb hf hff hfits
  have hr := State.reading_of_busy hb hf
  rw [← State.fits_iff] at hfits
  have ends := busyStep_last_ends (selected := State.inUnit) hr hff hfits
  have deliver {g : Byte} {p : List Byte} (hs : s.slice ++ zeros s.zrun = g :: p) (htype : headerType g ≠ 6#5) :=
    busyStep_last_deliver (selected := State.inUnit) hr hff hfits hs ((isSei_eq_false g).2 htype)
  refine ⟨fun hnil => ends fun g p hs => ?_, fun g p hs htype => ends fun g' p' hs' => ?_, fun g p hs htype hroom => ?_,
    fun g p hs htype hfull => ?_⟩
  · cases hnil.symm.trans hs
  · cases hs.symm.trans hs'
    exact (isSei_iff g).2 htype
  · rw [← State.seqFull_eq_false] at hroom
    obtain ⟨_, e⟩ | ⟨hfull, _⟩ := deliver hs htype
    · exact e
    · cases hroom.symm.trans hfull
  · rw [← State.seqFull_iff] at hfull
    obtain ⟨hroom, _⟩ | ⟨_, e⟩ := deliver hs htype
    · cases hroom.symm.trans hfull
    · exact e

/-! ## The Decoder's states (R155, R206) -/

/-- The Decoder keeps its state or moves along the table of R155. -/
abbrev FollowsTable (d e : DState) : Prop :=
  e = d ∨ (d, e) ∈ [(DState.beforeFirstUnit, DState.streaming), (.beforeFirstUnit, .errored),
    (.beforeFirstUnit, .exhausted), (.beforeFirstUnit, .failed), (.streaming, .exhausted), (.streaming, .failed)]

section

variable {s t : State}

theorem State.dstate_of_not_terminal (h : s.terminal = false) : s.dstate = .beforeFirstUnit ∨ s.dstate = .streaming := by
  cases hd : s.dstate <;> simp [State.terminal, hd] at h ⊢

/-- From a state that is not terminal the table leads to STREAMING, EXHAUSTED and FAILED. -/
theorem followsTable_of_not_terminal (hterm : s.terminal = false) :
    ∀ d ∈ [DState.streaming, .exhausted, .failed], FollowsTable s.dstate d := by
  obtain hd | hd := State.dstate_of_not_terminal hterm <;> rw [hd] <;> decide

/-- A terminal signal moves to its own state, NOT_A_STREAM only from BEFORE_FIRST_UNIT. -/
theorem followsTable_enterTerminal (hterm : s.terminal = false) {sig : Signal} (hsig : sig = .notAStream → s.dstate ≠ .streaming) :
    FollowsTable s.dstate (s.enterTerminal sig).dstate := by
  cases sig with
  | endOfStream => exact followsTable_of_not_terminal hterm .exhausted (by decide)
  | sourceReadFailure e => exact followsTable_of_not_terminal hterm .failed (by decide)
  | notAStream =>
    change FollowsTable s.dstate .errored
    rw [(State.dstate_of_not_terminal hterm).resolve_right (hsig rfl)]
    decide

/-- An enabled busy step follows the table: a request is outstanding in no terminal state (I4), and STREAMING is after the first
start code (I2). -/
theorem ReadChange.followsTable (h : CoreInv s) (hr : s.reading = true) (hc : ReadChange s t) : FollowsTable s.dstate t.dstate := by
  have ⟨_, hstreaming, _⟩ := h
  have hterm : s.srcRead.terminal = false := h.not_terminal hr
  cases hc with
  | fault r => exact .inl rfl
  | zero => exact .inl rfl
  | firstStart _ _ => exact .inl rfl
  | notAStream hff => exact followsTable_enterTerminal hterm fun _ => hstreaming hff
  | empty _ _ => exact followsTable_enterTerminal hterm nofun
  | fail e => exact followsTable_enterTerminal hterm nofun
  | payload b _ _ _ _ => exact .inl rfl
  | skip _ _ => exact .inl rfl
  | deliver g p _ _ _ _ _ => exact followsTable_of_not_terminal hterm .streaming (by decide)
  | lastEnds _ _ => exact followsTable_enterTerminal (s := { s.srcRead with slice := [], zrun := 0 }) hterm nofun
  | lastDelivered g p _ _ _ _ _ => exact followsTable_of_not_terminal hterm .streaming (by decide)

/-- A command other than RESET follows the table: only NEXT_UNIT after end of input moves (R175). -/
theorem exec_cmd_followsTable {w : BitVec 2} (hs : exec (decodeCommand w) s = .next t) :
    w = 0b10#2 ∨ FollowsTable s.dstate t.dstate := by
  rcases exec_cmd_change hs with rfl | ⟨hw, _⟩ | ⟨_, ⟨_, _, rfl⟩ | ⟨_, rfl⟩ | ⟨_, _, _, _, rfl⟩ | ⟨_, _, hterm, _, rfl⟩ |
    ⟨_, _, _, rfl⟩ | ⟨_, _, _, rfl⟩ | ⟨_, _, _, rfl⟩⟩
  · exact .inr (.inl rfl)
  · exact .inl hw
  · exact .inr (.inl rfl)
  · exact .inr (.inl rfl)
  · exact .inr (.inl rfl)
  · exact .inr (followsTable_enterTerminal hterm nofun)
  · exact .inr (.inl rfl)
  · exact .inr (.inl rfl)
  · exact .inr (.inl rfl)

end

/-- Settles O46: moves of the environment keep dstate, and a command but RESET and a busy step follow the table. -/
theorem decoderStatesMoveByTheTable : Obligations.DecoderStatesMoveByTheTable := by
  unfold Obligations.DecoderStatesMoveByTheTable
  intro s t h hs
  have ⟨_, _, _, _, _, _, _, hwire⟩ := h
  rw [← or_assoc]
  rcases step_change (State.waitingHeader_of_event_none hwire) hs with
    ⟨w, rest, hin, hc⟩ | ⟨ws, rest, _, rfl⟩ | ⟨rest, _, rfl | ⟨hr, _, hc⟩⟩
  · obtain rfl | hmove := exec_cmd_followsTable hc
    · exact .inr ⟨rest, hin⟩
    · exact .inl hmove
  · exact .inl (.inl rfl)
  · exact .inl (.inl rfl)
  · exact .inl (ReadChange.followsTable (s := { s with inputs := rest }) h hr hc)

end Sys2Proof.Machine
end

section
/-! SUPPORT. The request port (spec 42_interface_ops.md R170 to R182): what each command does and what a step takes from the ports,
what a fault leaves to do, and the machine run on one NEXT_UNIT against the call function of R181. -/

namespace Sys2Proof.Machine

/-! ## Commands (R171 to R176, R178 to R180) -/

/-- Settles O9: the NOP row answers the state it is given. -/
theorem nopHasNoEffect : Obligations.NopHasNoEffect := by
  unfold Obligations.NopHasNoEffect
  exact fun _ => rfl

/-- Settles O14: the RESET row constructs a new reader whatever state it is given. -/
theorem resetConstructsANewReader : Obligations.ResetConstructsANewReader := by
  unfold Obligations.ResetConstructsANewReader
  exact fun _ => rfl

/-- Settles O15: the row tests the fault alone. -/
theorem reservedCommandFaults : Obligations.ReservedCommandFaults := by
  unfold Obligations.ReservedCommandFaults
  exact fun s hf => if_pos ((State.live_iff s).2 hf)

/-- Settles O13: an outstanding request is tested before the Decoder's state. -/
theorem nextUnitWhileBusyFaults : Obligations.NextUnitWhileBusyFaults := by
  unfold Obligations.NextUnitWhileBusyFaults
  intro s hf hb
  exact (if_pos ((State.live_iff s).2 hf)).trans (if_pos hb)

/-- The state in which a NEXT_UNIT request has been accepted (R171). -/
def State.begun (s : State) : State := { s with busy := true }

section

variable {s : State} (hf : s.fault = none) (hb : s.busy = false)
include hf hb

/-- NEXT_UNIT on an ended Decoder only repeats the response it ended with (R172 to R174). -/
theorem exec_nextUnit_ended {r : Response} (h : EndedWith s r) : exec .nextUnit s = .next (s.emit r) := by
  change execNextUnit s = .next (s.emit r)
  cases h with
  | endOfStream hd => simp [execNextUnit, State.live, hf, hb, hd]
  | notAStream hd => simp [execNextUnit, State.live, hf, hb, hd]
  | sourceReadFailure hd => simp [execNextUnit, State.live, hf, hb, hd, withFailInfo_failInfo]

/-- NEXT_UNIT on a Decoder that has not ended begins a request, or ends the stream where end of input was seen (R171, R175). -/
theorem exec_nextUnit_open (h : s.dstate = .beforeFirstUnit ∨ s.dstate = .streaming) :
    exec .nextUnit s = .next (if s.eofSeen then s.enterTerminal .endOfStream else s.begun) := by
  change execNextUnit s = _
  rw [apply_ite Host.Outcome.next]
  obtain hd | hd := h <;> simp [execNextUnit, State.live, hf, hb, hd, State.begun]

end

/-- END_OF_STREAM after end of input writes dstate and out, and clears the model's own wire (R175). -/
theorem State.enterTerminal_of_eofSeen {s : State} (hb : s.busy = false) (he : s.eofSeen = true) :
    s.enterTerminal .endOfStream = { s with dstate := .exhausted, out := s.out ++ [.endOfStream], event := none } := by
  rw [State.enterTerminal_endOfStream, ← he, ← hb]

/-- Settles O10: the Decoder has not ended and end of input was not seen. -/
theorem nextUnitAcceptedSetsBusy : Obligations.NextUnitAcceptedSetsBusy := by
  unfold Obligations.NextUnitAcceptedSetsBusy
  intro s hf hb hd he
  rw [exec_nextUnit_open hf hb hd, if_neg (Bool.eq_false_iff.1 he), State.begun]

/-- Settles O11: the Decoder has ended with each of the three signals. -/
theorem nextUnitRepeatsItsTerminalSignal : Obligations.NextUnitRepeatsItsTerminalSignal := by
  unfold Obligations.NextUnitRepeatsItsTerminalSignal
  intro s hf hb
  refine ⟨fun hd => exec_nextUnit_ended hf hb (.endOfStream hd), fun hd => exec_nextUnit_ended hf hb (.notAStream hd),
    fun e hd he => ?_⟩
  exact exec_nextUnit_ended hf hb (State.failValue_of_failCode he ▸ .sourceReadFailure hd)

/-- Settles O12: the Decoder has not ended and end of input was seen. -/
theorem nextUnitAfterEofEndsTheStream : Obligations.NextUnitAfterEofEndsTheStream := by
  unfold Obligations.NextUnitAfterEofEndsTheStream
  intro s hf hb hd he
  rw [exec_nextUnit_open hf hb hd, if_pos he, State.enterTerminal_of_eofSeen hb he]

/-! ## What a step takes from the ports (R170, R177, R208) -/

section

variable {s : State}

/-- The source has no turn outside a request, after a fault and where it has no symbol. -/
theorem fetchSymbol_of_idle (h : s.busy = false ∨ s.fault ≠ none ∨ s.source = []) : fetchSymbol s = (.nop, s) := by
  rw [← or_assoc, ← State.reading_eq_false] at h
  obtain hr | hsource := h
  · simp [fetchSymbol, hr]
  · simp [fetchSymbol, hsource]

variable (hwire : s.waitingHeader = none)
include hwire

/-- A listed answer gives the source its turn. -/
theorem fetch_answer_eq {rest : List Input} (hin : s.inputs = .answer :: rest) :
    fetch s = fetchSymbol { s with inputs := rest } := by
  simp [fetch, fetchPort, hwire, hin]

/-- With nothing listed the source has its turn. -/
theorem fetch_noInput (hin : s.inputs = []) : fetch s = fetchSymbol s := by
  simp [fetch, fetchPort, hwire, hin]

theorem fetch_rebind {ws : List SrcWord} {rest : List Input} (hin : s.inputs = .rebind ws :: rest) :
    fetch s = (.nop, { s with inputs := rest, source := ws }) := by
  simp [fetch, fetchPort, hwire, hin]

/-- Inside a request, with nothing listed, a step runs the row of the source's next symbol. -/
theorem step_symbol (hr : s.reading = true) {w : SrcWord} {ws : List SrcWord} (hsource : s.source = w :: ws)
    (hin : s.inputs = []) : step s = exec (decodeSource s.cfg s.foundFirst s.zrun w) s := by
  rw [step, fetch_noInput hwire hin, fetchSymbol_of_reading hr hsource]

end

/-- Settles O34: a waiting header byte is fetched first, then the head of inputs, and the source's turn needs a request, no fault
and a symbol. -/
theorem stepRunsTheDecodedInstruction : Obligations.StepRunsTheDecodedInstruction := by
  unfold Obligations.StepRunsTheDecodedInstruction
  refine fun s => ⟨fun h hwait => by simp [step, fetch, hwait], fun hwire => ⟨fun w rest hin => ?_,
    fun w ws rest hb hf hsource hin => ?_, fun w ws hb hf hsource hin => ?_, fun rest hidle hin => ?_, fun ws rest hin => ?_,
    fun hidle hin => ?_⟩⟩
  · rw [step, fetch_command hwire hin]
  · rw [step, fetch_answer hwire hin (State.reading_of_busy hb hf) hsource]
  · exact step_symbol hwire (State.reading_of_busy hb hf) hsource hin
  · rw [step, fetch_answer_eq hwire hin, fetchSymbol_of_idle (s := { s with inputs := rest }) hidle]
  · rw [step, fetch_rebind hwire hin]
  · rw [step, fetch_noInput hwire hin, fetchSymbol_of_idle hidle]

/-! ## After a fault (R177, R182) -/

section

variable {s : State} (hf : s.fault ≠ none)
include hf

theorem State.reading_of_fault : s.reading = false := (State.reading_eq_false s).2 (.inr hf)

/-- After a fault no row but RESET has an effect (R182). -/
theorem exec_of_fault {i : Instr} (hreset : i ≠ .reset) : exec i s = .next s := by
  have hr := State.reading_of_fault hf
  have dead {r : Result} : (if s.live then r else .next s) = .next s := if_neg (by simpa using hf)
  cases hi : i.format with
  | hdr =>
    obtain hrow | ⟨t, f, nri, hrow⟩ := exec_hdr hi <;> rw [hrow]
    · rw [filterRow_of_not_reading hr]
    · rw [deliverRow_of_not_reading hr]
  | cmd =>
    obtain ⟨w, rfl⟩ := exists_decodeCommand hi
    rcases bitVec2_cases w with rfl | rfl | rfl | rfl
    · rfl
    · exact dead
    · exact absurd rfl hreset
    · exact dead
  | src => exact exec_src_of_not_reading hi hr
  | rsp => cases i <;> cases hi <;> exact dead

/-- After a fault a step without a RESET only moves the environment (R182). -/
theorem step_of_fault {t : State} (hs : step s = .next t) (hreset : ∀ rest, s.inputs ≠ .command 0b10#2 :: rest) :
    t = { s with inputs := t.inputs, source := t.source } := by
  have hr := State.reading_of_fault hf
  have hwire : s.waitingHeader = none := by simp [State.waitingHeader, hr]
  rcases step_change hwire hs with ⟨w, rest, hin, hc⟩ | ⟨ws, rest, _, rfl⟩ | ⟨rest, _, rfl | ⟨hr', _⟩⟩
  · rcases exec_cmd_change hc with rfl | ⟨rfl, _⟩ | ⟨hf', _⟩
    · rfl
    · exact absurd hin (hreset rest)
    · exact absurd hf' hf
  · rfl
  · rfl
  · cases hr.symm.trans hr'

end

/-- Settles O39: every row but RESET tests the fault, and so does every part of a successful end. -/
theorem faultedInstanceTakesNoStep : Obligations.FaultedInstanceTakesNoStep := by
  unfold Obligations.FaultedInstanceTakesNoStep
  intro s hf
  refine ⟨fun i => exec_of_fault hf, fun t => step_of_fault hf, State.reading_of_fault hf, ?_⟩
  rw [State.successful, (State.live_eq_false s).2 hf, Bool.and_false]

/-- An enabled busy step faults, and then only the read and the fault are written, or leaves the fault as it is (R177). -/
theorem ReadChange.fault_cases {s t : State} (h : ReadChange s t) :
    (∃ r, t = s.srcRead.raiseFault r) ∨ t.fault = s.fault := by
  cases h with
  | fault r => exact .inl ⟨r, rfl⟩
  | notAStream _ => exact .inr (State.enterTerminal_fault _ _)
  | empty _ _ => exact .inr (State.enterTerminal_fault _ _)
  | fail e => exact .inr (State.enterTerminal_fault _ _)
  | lastEnds _ _ => exact .inr (State.enterTerminal_fault _ _)
  | _ => exact .inr rfl

/-- Settles O40: a SRC row has no effect or is a busy step. -/
theorem faultingBusyStepWritesOnlyPosAndFault : Obligations.FaultingBusyStepWritesOnlyPosAndFault := by
  unfold Obligations.FaultingBusyStepWritesOnlyPosAndFault
  intro i s t r hi hf hs ht
  obtain rfl | ⟨_, hc⟩ := exec_src_change hi hs
  · cases hf.symm.trans ht
  obtain ⟨r', rfl⟩ | hkept := hc.fault_cases
  · cases ht
    rfl
  · cases (hkept.trans hf).symm.trans ht

/-! ## A symbol's row is the Scanner's step on it (R100, R121, R177) -/

/-- A busy step looks at its condition before the read and at its rule after it. -/
theorem busyStep_congr {selected selected' : State → Bool} {rule rule' : State → State} {s : State}
    (hsel : selected s = selected' s) (hrule : rule s.srcRead = rule' s.srcRead) :
    busyStep selected rule s = busyStep selected' rule' s := by
  simp only [busyStep, hsel, hrule]

/-- A byte is the lowest byte of its range and the free low bits. -/
theorem rangeByte_extractLsb' {b : Byte} {base k : Nat} (h : base + b.toNat % 2 ^ k = b.toNat) :
    rangeByte base (b.extractLsb' 0 k) = b := by
  simp [rangeByte, BitVec.extractLsb'_toNat, h]

theorem exec_otherSeekFirst (b : Byte) (s : State) :
    exec (otherSeekFirst b) s = busyStep State.seekFirst scanNotAStream s := by
  unfold otherSeekFirst
  split_ifs <;> rfl

theorem exec_otherInUnit {b : Byte} (h0 : b ≠ 0x00#8) (h1 : b ≠ 0x01#8) (s : State) :
    exec (otherInUnit b) s = busyStep State.inUnit (scanPayload b) s := by
  have range {base k : Nat} (h : base + b.toNat % 2 ^ k = b.toNat) :
      busyStep State.inUnit (scanPayload (rangeByte base (b.extractLsb' 0 k))) s =
        busyStep State.inUnit (scanPayload b) s := by
    rw [rangeByte_extractLsb' h]
  have hlow : 2 ≤ b.toNat := by bv_omega
  have hhigh := b.isLt
  unfold otherInUnit
  split_ifs
  · exact range (base := 0x02) (k := 1) (by omega)
  · exact range (base := 0x04) (k := 2) (by omega)
  · exact range (base := 0x08) (k := 3) (by omega)
  · exact range (base := 0x10) (k := 4) (by omega)
  · exact range (base := 0x20) (k := 5) (by omega)
  · exact range (base := 0x40) (k := 6) (by omega)
  · exact range (base := 0x80) (k := 7) (by omega)

/-- Rows for 0x01: the phase and the zero count select the rule (R102, R103, R111, R112). -/
theorem exec_oneRow (s : State) :
    exec (byteRow s.foundFirst s.zrun 0x01#8) s = busyStep (fun _ => true) (scan (.byte 0x01#8)) s := by
  cases hff : s.foundFirst <;> by_cases hz : 2 ≤ s.zrun
  · have hrow : byteRow false s.zrun 0x01#8 = .byteOneSeekFirstStart := by simp [byteRow, hz]
    rw [hrow]
    exact busyStep_congr (selected := fun s => s.seekFirst && s.zerosReady)
      (by simp [State.seekFirst, State.zerosReady, hff, hz]) (by simp [scan, State.inUnit, State.zerosReady, hff, hz])
  · have hrow : byteRow false s.zrun 0x01#8 = .byteOneSeekFirstNas := by simp [byteRow, hz]
    rw [hrow]
    exact busyStep_congr (selected := fun s => s.seekFirst && !s.zerosReady)
      (by simp [State.seekFirst, State.zerosReady, hff, hz]) (by simp [scan, State.inUnit, State.zerosReady, hff, hz])
  · have hrow : byteRow true s.zrun 0x01#8 = .byteOneInUnitDelim := by simp [byteRow, hz]
    rw [hrow]
    exact busyStep_congr (selected := fun s => s.inUnit && s.zerosReady)
      (by simp [State.inUnit, State.zerosReady, hff, hz]) (by simp [scan, State.inUnit, State.zerosReady, hff, hz])
  · have hrow : byteRow true s.zrun 0x01#8 = .byteOneInUnitPayload := by simp [byteRow, hz]
    rw [hrow]
    exact busyStep_congr (selected := fun s => s.inUnit && !s.zerosReady)
      (by simp [State.inUnit, State.zerosReady, hff, hz]) (by simp [scan, State.inUnit, State.zerosReady, hff, hz])

theorem exec_byteRow (b : Byte) (s : State) :
    exec (byteRow s.foundFirst s.zrun b) s = busyStep (fun _ => true) (scan (.byte b)) s := by
  by_cases h0 : b = 0x00#8
  · subst h0
    cases hff : s.foundFirst
    · exact busyStep_congr (selected := State.seekFirst) (by simp [State.seekFirst, hff]) rfl
    · exact busyStep_congr (selected := State.inUnit) hff rfl
  by_cases h1 : b = 0x01#8
  · subst h1
    exact exec_oneRow s
  · rw [byteRow_other h0 h1]
    cases hff : s.foundFirst
    · exact (exec_otherSeekFirst b s).trans
        (busyStep_congr (by simp [State.seekFirst, hff]) (by simp [scan, h0, h1, State.inUnit, hff]))
    · exact (exec_otherInUnit h0 h1 s).trans (busyStep_congr hff (by simp [scan, h0, h1, State.inUnit, hff]))

theorem exec_eofRow (s : State) :
    exec (symbolRow s.foundFirst s.zrun .eof) s = busyStep (fun _ => true) (scan .eof) s := by
  cases hff : s.foundFirst
  · by_cases hz : s.zrun = 0
    · have hrow : symbolRow false s.zrun .eof = .eofSeekFirstEmpty := by simp [symbolRow, hz]
      rw [hrow]
      exact busyStep_congr (selected := fun s => s.seekFirst && decide (s.zrun = 0))
        (by simp [State.seekFirst, hff, hz]) (by simp [scan, State.inUnit, hff, hz])
    · have hrow : symbolRow false s.zrun .eof = .eofSeekFirstNas := by simp [symbolRow, hz]
      rw [hrow]
      exact busyStep_congr (selected := fun s => s.seekFirst && decide (0 < s.zrun))
        (by simp [State.seekFirst, hff, Nat.pos_of_ne_zero hz]) (by simp [scan, State.inUnit, hff, hz])
  · exact busyStep_congr (selected := State.inUnit) hff (by simp [scan, State.inUnit, hff])

/-- The row a symbol selects is the busy step of the transition table on that symbol (R121). -/
theorem exec_symbolRow (sym : Symbol) (s : State) :
    exec (symbolRow s.foundFirst s.zrun sym) s = busyStep (fun _ => true) (scan sym) s := by
  cases sym with
  | byte b => exact exec_byteRow b s
  | eof => exact exec_eofRow s
  | fail e =>
    cases hff : s.foundFirst
    · exact busyStep_congr (selected := State.seekFirst) (by simp [State.seekFirst, hff]) rfl
    · exact busyStep_congr (selected := State.inUnit) hff rfl

/-! ## The Scanner has no part in the ports (R100) -/

/-- The state with another request, responses and inputs. -/
def State.withPorts (busy : Bool) (out : List Response) (inputs : List Input) (s : State) : State :=
  { s with busy := busy, out := out, inputs := inputs }

section

variable (busy : Bool) (out : List Response) (inputs : List Input) (s : State)

theorem State.commit_withPorts (bytes : List Byte) :
    (s.withPorts busy out inputs).commit bytes = (s.commit bytes).withPorts busy out inputs := by
  simp only [State.commit, apply_ite (State.withPorts busy out inputs)]
  rfl

theorem scanLast_withPorts : scanLast (s.withPorts busy out inputs) = (scanLast s).withPorts busy out inputs := by
  have hzrun : (s.withPorts busy out inputs).zrun = s.zrun := rfl
  have hfault (t : State) : (t.withPorts busy out inputs).fault = t.fault := rfl
  simp only [scanLast, hzrun, State.commit_withPorts, hfault]
  cases (s.commit (zeros s.zrun)).fault <;> rfl

/-- The Scanner neither looks at the ports nor writes them. -/
theorem scan_withPorts (sym : Symbol) : scan sym (s.withPorts busy out inputs) = (scan sym s).withPorts busy out inputs := by
  cases sym with
  | byte b =>
    have hpayload : scanPayload b (s.withPorts busy out inputs) = (scanPayload b s).withPorts busy out inputs :=
      State.commit_withPorts ..
    simp only [scan, hpayload, apply_ite (State.withPorts busy out inputs)]
    rfl
  | eof =>
    simp only [scan, scanLast_withPorts, apply_ite (State.withPorts busy out inputs)]
    rfl
  | fail e => rfl

end

section

variable (sym : Symbol) (s : State)

theorem scan_ports : (scan sym s).withPorts s.busy s.out s.inputs = scan sym s :=
  (scan_withPorts s.busy s.out s.inputs s sym).symm

@[simp] theorem scan_busy : (scan sym s).busy = s.busy := (congrArg State.busy (scan_ports sym s)).symm

@[simp] theorem scan_out : (scan sym s).out = s.out := (congrArg State.out (scan_ports sym s)).symm

@[simp] theorem scan_inputs : (scan sym s).inputs = s.inputs := (congrArg State.inputs (scan_ports sym s)).symm

/-- A symbol is scanned alike whether or not a request is outstanding. -/
theorem scan_begun : scan sym s.begun = (scan sym s).begun := by
  rw [← scan_ports sym s]
  exact scan_withPorts true s.out s.inputs s sym

end

/-! ## One NEXT_UNIT on the machine (R171, R177, R181) -/

/-- No request is outstanding, no fault is recorded, and nothing is on the wire or listed at the ports. -/
structure Idle (s : State) : Prop where
  busy : s.busy = false
  fault : s.fault = none
  event : s.event = none
  inputs : s.inputs = []

/-- The machine's state where the call of R181 ends so, begun with these responses given (log entry 19). -/
def CallResult.machineState (out : List Response) : CallResult → State
  | .answered t r => { t with out := out ++ [r] }
  | .faulted t => t.begun
  | .waiting t => t.begun

/-- The response a terminal signal is given as (R201 to R203). -/
def Signal.response : Signal → Response
  | .endOfStream => .endOfStream
  | .notAStream => .notAStream
  | .sourceReadFailure e => .sourceReadFailure e

/-- The state R181 returns beside a terminal signal's response. -/
def State.ended (s : State) : Signal → State
  | .endOfStream => { s with eofSeen := true, dstate := .exhausted, event := none }
  | .notAStream => { s with dstate := .errored, event := none }
  | .sourceReadFailure e => { s with dstate := .failed, failCode := some e, event := none }

/-- Terminal entry inside a request ends the state as R181 does, the response given (R205). -/
theorem State.enterTerminal_begun {s : State} (hb : s.busy = false) (sig : Signal) :
    s.begun.enterTerminal sig = { s.ended sig with out := s.out ++ [sig.response] } := by
  cases sig with
  | endOfStream => simp [State.enterTerminal_endOfStream, State.begun, State.ended, Signal.response, hb]
  | notAStream => simp [State.enterTerminal_notAStream, State.begun, State.ended, Signal.response, hb]
  | sourceReadFailure e => simp [State.enterTerminal_sourceReadFailure, State.begun, State.ended, Signal.response, hb]

/-- One iteration of R181's loop is one step of the machine inside a request: both go on, or both end alike. -/
inductive StepsAsLoop (s : State) : Prop
  | goesOn (t : State) : Idle t → t.out = s.out → step s.begun = .next t.begun →
      (∀ fuel, nextUnitLoop (fuel + 1) s = nextUnitLoop fuel t) → StepsAsLoop s
  | ends (c : CallResult) : step s.begun = .next (c.machineState s.out) →
      (∀ fuel, nextUnitLoop (fuel + 1) s = c) → StepsAsLoop s

section

variable {s : State} (h : Idle s)
include h

theorem Idle.reading_begun : s.begun.reading = true := State.reading_of_busy rfl h.fault

theorem Idle.enabled_begun : (s.begun.reading && true) = true := enabled (selected := fun _ => true) h.reading_begun rfl

section

variable {w : SrcWord} {ws : List SrcWord} (hs : s.source = w :: ws)
include hs

theorem Idle.step_begun_eq_exec : step s.begun = exec (decodeSource s.cfg s.foundFirst s.zrun w) s.begun :=
  step_symbol (s := s.begun) (State.waitingHeader_of_event_none h.event) h.reading_begun hs h.inputs

/-- A reserved word ends both with the fault (R85). -/
theorem Idle.stepsAsLoop_reserved (hw : w.symbol s.cfg = none) : StepsAsLoop s := by
  refine .ends (.faulted (s.srcRead.raiseFault .reservedSourceTag)) ?_ fun fuel => ?_
  · rw [h.step_begun_eq_exec hs, decodeSource_of_no_symbol hw]
    exact if_pos h.reading_begun
  · simp [nextUnitLoop, hs, hw, State.read_eq_srcRead hs h.event]

variable {sym : Symbol} (hw : w.symbol s.cfg = some sym)
include hw

theorem Idle.step_eq_busyStep : step s.begun = busyStep (fun _ => true) (scan sym) s.begun := by
  rw [h.step_begun_eq_exec hs, decodeSource_of_symbol hw]
  exact exec_symbolRow sym s.begun

/-- A fault of the Scanner ends both (R120). -/
theorem Idle.stepsAsLoop_scanFault {r : FaultReason} (hf : (scan sym s.srcRead).fault = some r) : StepsAsLoop s := by
  refine .ends (.faulted (s.srcRead.raiseFault r)) ?_ fun fuel => ?_
  · rw [h.step_eq_busyStep hs hw]
    exact busyStep_ruleFault h.enabled_begun ((congrArg State.fault (scan_begun sym s.srcRead)).trans hf)
  · simp [nextUnitLoop, hs, hw, State.read_eq_srcRead hs h.event, hf]

variable (hf : (scan sym s.srcRead).fault = none)
include hf

/-- A step without a fault ends where the Decoder's reaction ends. -/
theorem Idle.step_of_react {t : State} (hr : react (scan sym s.srcRead).begun = .next t) (ht : t.fault = none) :
    step s.begun = .next t := by
  have hscan : scan sym s.begun.srcRead = (scan sym s.srcRead).begun := scan_begun sym s.srcRead
  rw [h.step_eq_busyStep hs hw]
  exact busyStep_done h.enabled_begun (hscan ▸ hf) (hscan ▸ hr) ht

theorem Idle.step_of_reactFault {t : State} {r : FaultReason} (hr : react (scan sym s.srcRead).begun = .next t)
    (ht : t.fault = some r) : step s.begun = .next (s.srcRead.raiseFault r).begun := by
  have hscan : scan sym s.begun.srcRead = (scan sym s.srcRead).begun := scan_begun sym s.srcRead
  rw [h.step_eq_busyStep hs hw]
  exact busyStep_reactFault h.enabled_begun (hscan ▸ hf) (hscan ▸ hr) ht

/-- Where the slice is skipped, or there is none, both go on (R144, R145). -/
theorem Idle.stepsAsLoop_skip (hr : react (scan sym s.srcRead).begun = .next (scan sym s.srcRead).skipSlice.begun)
    (hloop : ∀ fuel, nextUnitLoop (fuel + 1) s = nextUnitLoop fuel (scan sym s.srcRead).skipSlice) : StepsAsLoop s :=
  .goesOn (scan sym s.srcRead).skipSlice ⟨by simpa using h.busy, hf, rfl, by simpa using h.inputs⟩ (by simp)
    (h.step_of_react hs hw hf hr hf) hloop

/-- A terminal signal ends both (R147, R148, R150, R151, R153). -/
theorem Idle.stepsAsLoop_terminal (sig : Signal)
    (hr : react (scan sym s.srcRead).begun = .next ((scan sym s.srcRead).begun.enterTerminal sig))
    (hloop : ∀ fuel, nextUnitLoop (fuel + 1) s = .answered ((scan sym s.srcRead).ended sig) sig.response) : StepsAsLoop s := by
  refine .ends _ ?_ hloop
  have hbusy : (scan sym s.srcRead).busy = false := (scan_busy sym s.srcRead).trans h.busy
  rw [h.step_of_react hs hw hf hr ((State.enterTerminal_fault _ _).trans hf), State.enterTerminal_begun hbusy, scan_out]
  rfl

/-- A delivered unit, or the overflow of its index, ends both (R146, R149, R152). -/
theorem Idle.stepsAsLoop_deliver {g : Byte} {p : List Byte} {last : Bool}
    (hev : eventSlice (scan sym s.srcRead).event = g :: p)
    (hr : react (scan sym s.srcRead).begun = .next ((scan sym s.srcRead).begun.deliver g last))
    (hloop : ∀ fuel, nextUnitLoop (fuel + 1) s = deliverCall g p last s.srcRead (scan sym s.srcRead)) : StepsAsLoop s := by
  refine .ends _ ?_ hloop
  cases hq : (scan sym s.srcRead).seqFull
  · have hd := State.deliver_of_room (s := (scan sym s.srcRead).begun) hq g last
    rw [h.step_of_react hs hw hf hr (hd ▸ hf), hd, deliverCall_of_room hq]
    simp [CallResult.machineState, State.begun, hev, h.busy]
  · have hd := State.deliver_of_full (s := (scan sym s.srcRead).begun) hq g last
    rw [h.step_of_reactFault hs hw hf hr (congrArg State.fault hd)]
    simp [deliverCall, hq, CallResult.machineState]

/-- Without a fault the event decides (R144 to R153). -/
theorem Idle.stepsAsLoop_scanned : StepsAsLoop s := by
  have hread := State.read_eq_srcRead hs h.event
  have ends (sig : Signal) := h.stepsAsLoop_terminal hs hw hf sig
  cases hev : (scan sym s.srcRead).event with
  | none =>
    have hquiet : (scan sym s.srcRead).skipSlice = scan sym s.srcRead := by rw [State.skipSlice, ← hev]
    refine h.stepsAsLoop_skip hs hw hf ?_ ?_ <;> rw [hquiet]
    · simp [react, State.begun, hev]
    · exact nextUnitLoop_quiet hs h.event hw hf hev
  | some ev =>
    cases ev with
    | slice sl =>
      cases sl with
      | nil =>
        exact h.stepsAsLoop_skip hs hw hf (by simp [react, State.begun, hev, State.skipSlice])
          fun fuel => by simp [nextUnitLoop, hs, hw, hread, hf, hev]
      | cons g p =>
        have hre := react_slice (s := (scan sym s.srcRead).begun) (State.reading_of_busy rfl hf) hev
        have hloop := nextUnitLoop_slice hs h.event hw hf hev
        cases hsei : isSei g <;> simp only [hsei, if_true, Bool.false_eq_true, if_false] at hre hloop
        · exact h.stepsAsLoop_deliver hs hw hf (congrArg eventSlice hev) hre hloop
        · exact h.stepsAsLoop_skip hs hw hf hre hloop
    | last sl =>
      cases sl with
      | nil =>
        exact ends .endOfStream (by simp [react, State.begun, hev])
          fun fuel => by simp [nextUnitLoop, hs, hw, hread, hf, hev, State.ended, Signal.response]
      | cons g p =>
        have hre := react_last (s := (scan sym s.srcRead).begun) (State.reading_of_busy rfl hf) hev
        have hloop := nextUnitLoop_last hs h.event hw hf hev
        cases hsei : isSei g <;> simp only [hsei, if_true, Bool.false_eq_true, if_false] at hre hloop
        · exact h.stepsAsLoop_deliver hs hw hf (congrArg eventSlice hev) hre hloop
        · exact ends .endOfStream hre hloop
    | empty =>
      exact ends .endOfStream (by simp [react, State.begun, hev])
        fun fuel => by simp [nextUnitLoop, hs, hw, hread, hf, hev, State.ended, Signal.response]
    | notAStream =>
      exact ends .notAStream (by simp [react, State.begun, hev])
        fun fuel => by simp [nextUnitLoop, hs, hw, hread, hf, hev, State.ended, Signal.response]
    | fail e =>
      exact ends (.sourceReadFailure e) (by simp [react, State.begun, hev])
        fun fuel => by simp [nextUnitLoop, hs, hw, hread, hf, hev, State.ended, Signal.response]

end

/-- One iteration of the loop, whatever the source's next symbol. -/
theorem Idle.stepsAsLoop {w : SrcWord} {ws : List SrcWord} (hs : s.source = w :: ws) : StepsAsLoop s := by
  cases hw : w.symbol s.cfg with
  | none => exact h.stepsAsLoop_reserved hs hw
  | some sym =>
    cases hf : (scan sym s.srcRead).fault with
    | some r => exact h.stepsAsLoop_scanFault hs hw hf
    | none => exact h.stepsAsLoop_scanned hs hw hf

end

theorem run_succ {s t : State} (h : step s = .next t) (k : Nat) :
    Host.Core.run Sys2Proof.core (k + 1) s = Host.Core.run Sys2Proof.core k t := by
  have hcore : Sys2Proof.core.step s = .next t := h
  simp only [Host.Core.run, hcore]

/-- The machine inside a request ends as R181's loop, within as many steps as the loop has fuel. -/
theorem run_begun_nextUnitLoop (fuel : Nat) {s : State} (h : Idle s) :
    ∃ k ≤ fuel, Host.Core.run Sys2Proof.core k s.begun = .next ((nextUnitLoop fuel s).machineState s.out) := by
  induction fuel generalizing s with
  | zero => exact ⟨0, le_rfl, rfl⟩
  | succ fuel ih =>
    cases hs : s.source with
    | nil => exact ⟨0, Nat.zero_le _, by simp [nextUnitLoop, hs, CallResult.machineState]; rfl⟩
    | cons w ws =>
      cases h.stepsAsLoop hs with
      | goesOn t ht hout hstep hloop =>
        obtain ⟨k, hk, hrun⟩ := ih ht
        exact ⟨k + 1, Nat.succ_le_succ hk, by rw [run_succ hstep, hrun, hloop, hout]⟩
      | ends c hstep hloop => exact ⟨1, Nat.succ_le_succ (Nat.zero_le _), by rw [run_succ hstep, hloop]; rfl⟩

/-- The Decoder has ended with some response, or it has not ended (R21, R37). -/
theorem State.ended_or_open (s : State) :
    (∃ r, EndedWith s r) ∨ s.dstate = .beforeFirstUnit ∨ s.dstate = .streaming := by
  cases hd : s.dstate with
  | exhausted => exact .inl ⟨_, .endOfStream hd⟩
  | errored => exact .inl ⟨_, .notAStream hd⟩
  | failed => exact .inl ⟨_, .sourceReadFailure hd⟩
  | beforeFirstUnit => exact .inr (.inl rfl)
  | streaming => exact .inr (.inr rfl)

theorem nextUnit_open {s : State} (hd : s.dstate = .beforeFirstUnit ∨ s.dstate = .streaming) (fuel : Nat) :
    nextUnit fuel s = if s.eofSeen then .answered { s with dstate := .exhausted } .endOfStream else nextUnitLoop fuel s := by
  obtain hd | hd := hd <;> rw [nextUnit, hd]

/-- The NEXT_UNIT row answers at once, or begins a request that the machine ends as R181's loop. -/
theorem exec_nextUnit_run (fuel : Nat) {s : State} (h : Idle s) :
    ∃ t, exec .nextUnit s = .next t ∧
      ∃ k ≤ fuel, Host.Core.run Sys2Proof.core k t = .next ((nextUnit fuel s).machineState s.out) := by
  obtain ⟨r, hended⟩ | hopen := s.ended_or_open
  · refine ⟨_, exec_nextUnit_ended h.fault h.busy hended, 0, Nat.zero_le _, ?_⟩
    rw [hended.nextUnit_eq]
    rfl
  · refine ⟨_, exec_nextUnit_open h.fault h.busy hopen, ?_⟩
    rw [nextUnit_open hopen]
    split
    next heof =>
      refine ⟨0, Nat.zero_le _, ?_⟩
      rw [State.enterTerminal_of_eofSeen h.busy heof, ← h.event]
      rfl
    next => exact run_begun_nextUnitLoop fuel h

/-- Settles O54: the command's step, then one step for each iteration of the loop. -/
theorem stepsRefineTheNextUnitCall : Obligations.StepsRefineTheNextUnitCall := by
  unfold Obligations.StepsRefineTheNextUnitCall
  intro fuel s hb hf he hin
  obtain ⟨t, hexec, k, hk, hrun⟩ := exec_nextUnit_run fuel ⟨hb, hf, he, hin⟩
  have hstep : step { s with inputs := [.command 0b01#2] } = .next t := by
    rw [step, fetch_command (s := { s with inputs := [.command 0b01#2] }) (State.waitingHeader_of_event_none he) rfl, ← hin]
    exact hexec
  refine ⟨k + 1, Nat.succ_le_succ hk, (run_succ hstep k).trans (hrun.trans ?_)⟩
  cases nextUnit fuel s <;> rfl

end Sys2Proof.Machine
end

section
/-! SUPPORT. The signals of spec 60_exceptions.md: which responses a step may give (R87, R201, R204), and the first call on a stream
without a leading start code (R103, R104, R106). -/

namespace Sys2Proof.Machine

/-! ## The responses a step may give (R87, R201, R204) -/

/-- NOT_A_STREAM may be given only in phase SEEK_FIRST, a UNIT only of a type other than that of SEI. -/
def Response.AllowedIn (foundFirst : Bool) : Response → Prop
  | .unit u => u.unitType ≠ seiType
  | .endOfStream => True
  | .notAStream => foundFirst = false
  | .sourceReadFailure _ => True

/-- Where out is extended by one response, it is one that may be given in the phase of `s`. -/
def GivesAllowed (s t : State) : Prop := ∀ r : Response, t.out = s.out ++ [r] → r.AllowedIn s.foundFirst

@[simp] theorem State.enterTerminal_out (sig : Signal) (s : State) : (s.enterTerminal sig).out = s.out ++ [sig.response] := by
  cases sig with
  | endOfStream => rfl
  | notAStream => rfl
  | sourceReadFailure e => rw [State.enterTerminal_sourceReadFailure]; rfl

section

variable {s t : State}

/-- Where out is not extended there is nothing to allow. -/
theorem GivesAllowed.of_out_eq (h : t.out = s.out) : GivesAllowed s t := by
  intro r hr
  simp [h] at hr

/-- A response given is the only one to allow. -/
theorem GivesAllowed.of_append {r : Response} (h : t.out = s.out ++ [r]) (hr : r.AllowedIn s.foundFirst) : GivesAllowed s t := by
  intro r' hr'
  have hlast : r = r' := by simpa [h] using hr'
  exact hlast ▸ hr

/-- A new reader has given nothing (R34). -/
theorem GivesAllowed.construct (s : State) : GivesAllowed s s.construct := by
  intro r hr
  simp [State.construct, State.reset] at hr

/-- The unit of a slice that is delivered is no SEI (R145). -/
theorem allowedIn_unitOf {h : Byte} (hsei : isSei h = false) (p : List Byte) (index : Nat) (ff : Bool) :
    (Response.unit (unitOf h p index)).AllowedIn ff :=
  (isSei_eq_false h).1 hsei

/-- An enabled busy step fails the initial-boundary check in phase SEEK_FIRST only, and delivers no SEI. -/
theorem ReadChange.givesAllowed (hc : ReadChange s t) : GivesAllowed s t := by
  cases hc with
  | fault r => exact .of_out_eq rfl
  | zero => exact .of_out_eq rfl
  | firstStart _ _ => exact .of_out_eq rfl
  | notAStream hff => exact .of_append (State.enterTerminal_out _ _) hff
  | empty _ _ => exact .of_append (State.enterTerminal_out _ _) trivial
  | fail e => exact .of_append (State.enterTerminal_out _ _) trivial
  | payload b _ _ _ _ => exact .of_out_eq rfl
  | skip _ _ => exact .of_out_eq rfl
  | deliver g p _ _ _ hsei _ => exact .of_append rfl (allowedIn_unitOf hsei p _ _)
  | lastEnds _ _ => exact .of_append (State.enterTerminal_out _ _) trivial
  | lastDelivered g p _ _ _ hsei _ => exact .of_append rfl (allowedIn_unitOf hsei p _ _)

/-- A command gives no UNIT, and repeats NOT_A_STREAM in ERRORED only, which is in phase SEEK_FIRST (I3). -/
theorem CoreInv.command_givesAllowed {w : BitVec 2} (h : CoreInv s) (hs : exec (decodeCommand w) s = .next t) :
    GivesAllowed s t := by
  have ⟨_, _, herrored, _⟩ := h
  rcases exec_cmd_change hs with rfl | ⟨_, rfl⟩ | ⟨_, ⟨_, _, rfl⟩ | ⟨_, rfl⟩ | ⟨_, _, _, _, rfl⟩ | ⟨_, _, _, _, rfl⟩ |
    ⟨_, _, _, rfl⟩ | ⟨_, _, hd, rfl⟩ | ⟨_, _, _, rfl⟩⟩
  · exact .of_out_eq rfl
  · exact .construct s
  · exact .of_out_eq rfl
  · exact .of_out_eq rfl
  · exact .of_out_eq rfl
  · exact .of_append (State.enterTerminal_out _ _) trivial
  · exact .of_append (State.emit_out _ _) trivial
  · exact .of_append (State.emit_out _ _) (herrored hd)
  · exact .of_append (State.emit_out _ _) trivial

/-- Moves of the environment give no response, and commands and busy steps give allowed ones. -/
theorem CoreInv.step_givesAllowed (h : CoreInv s) (hs : step s = .next t) : GivesAllowed s t := by
  have ⟨_, _, _, _, _, _, _, hwire⟩ := h
  rcases step_change (State.waitingHeader_of_event_none hwire) hs with
    ⟨w, rest, _, hc⟩ | ⟨ws, rest, _, rfl⟩ | ⟨rest, _, rfl | ⟨_, _, hc⟩⟩
  · exact CoreInv.command_givesAllowed (s := { s with inputs := rest }) h hc
  · exact .of_out_eq rfl
  · exact .of_out_eq rfl
  · exact hc.givesAllowed

end

/-- Settles O47: both are responses that the step gives, so both are allowed in its phase. -/
theorem notAStreamOnlyBeforeTheFirstStartCode : Obligations.NotAStreamOnlyBeforeTheFirstStartCode := by
  unfold Obligations.NotAStreamOnlyBeforeTheFirstStartCode
  intro s t h hs
  have hallowed := h.step_givesAllowed hs
  exact ⟨hallowed .notAStream, fun u => hallowed (.unit u)⟩

/-! ## A stream without a leading start code (R103, R104, R106) -/

section

variable {s : State} (hff : s.foundFirst = false)
include hff

/-- In SEEK_FIRST a byte that is no zero and completes no start code fails the initial-boundary check (R103, R104). -/
theorem scan_byte_notAStream {b : Byte} (hb : b ≠ 0x00#8) (hone : ¬(b = 0x01#8 ∧ 2 ≤ s.zrun)) :
    scan (.byte b) s = scanNotAStream s := by
  by_cases h1 : b = 0x01#8
  · have hz : ¬2 ≤ s.zrun := fun hz => hone ⟨h1, hz⟩
    simp [scan, h1, State.inUnit, hff, State.zerosReady, hz]
  · simp [scan, hb, h1, State.inUnit, hff]

/-- In SEEK_FIRST end of input behind a zero fails the initial-boundary check (R106). -/
theorem scan_eof_notAStream (hz : s.zrun ≠ 0) : scan .eof s = scanNotAStream s := by
  simp [scan, State.inUnit, hff, hz]

end

/-- A symbol that fails the initial-boundary check ends the call, and no further symbol is read (R58, R151). -/
theorem nextUnitLoop_notAStream {s : State} {w : SrcWord} {rest : List SrcWord} {sym : Symbol} (u : UnderWay s)
    (hs : s.source = w :: rest) (hw : w.symbol s.cfg = some sym) (hscan : scan sym s.srcRead = scanNotAStream s.srcRead)
    (fuel : Nat) :
    nextUnitLoop (fuel + 1) s = .answered { s.srcRead with dstate := .errored } .notAStream := by
  have hf : (scan sym s.srcRead).fault = none := by rw [hscan]; exact u.fault
  have hev : (scan sym s.srcRead).event = some .notAStream := by rw [hscan]; rfl
  simp only [nextUnitLoop, hs, hw, State.read_eq_srcRead hs u.event, hf, hev]
  simp [hscan, u.fault]

/-- From reset, `k` zeros and a symbol that fails the initial-boundary check behind them are all that the first call reads. -/
theorem nextUnit_reset_notAStream {k : Nat} {w : SrcWord} {sym : Symbol} (hw : w.symbol State.reset.cfg = some sym)
    (hscan : ∀ s : State, s.foundFirst = false → s.zrun = k → scan sym s = scanNotAStream s) (rest : List SrcWord) :
    ∃ t : State,
      nextUnit (k + 1) { State.reset with source := (zeros k).map byteWord ++ w :: rest } = .answered t .notAStream ∧
      t.pos = k + 1 ∧ t.dstate = .errored ∧ t.source = rest := by
  have u : UnderWay { State.reset with source := (zeros k).map byteWord ++ w :: rest } := ⟨rfl, rfl, rfl, rfl, rfl⟩
  have hzrun : State.reset.zrun + k = k := Nat.zero_add k
  have hpos : State.reset.pos + k + 1 = k + 1 := congrArg (· + 1) (Nat.zero_add k)
  exact ⟨_, (nextUnitLoop_zeros k u rfl 1).trans (nextUnitLoop_notAStream (u.readOn _ _ _ _) rfl hw (hscan _ rfl hzrun) 0),
    hpos, rfl, rfl⟩

/-- Settles O56: the byte, or EOF behind a zero, is the symbol that fails the initial-boundary check. -/
theorem unstartedStreamIsNotAStream : Obligations.UnstartedStreamIsNotAStream := by
  unfold Obligations.UnstartedStreamIsNotAStream
  refine ⟨fun k b rest hb hone => ?_, fun k rest hk => ?_⟩
  · rw [List.map_append, List.append_assoc]
    exact nextUnit_reset_notAStream (byteWord_symbol _ b)
      (fun s hff hz => scan_byte_notAStream hff hb (hz.symm ▸ hone)) rest
  · obtain ⟨t, hcall, _, hstate⟩ := nextUnit_reset_notAStream (k := k) (eofWord_symbol _)
      (fun s hff hz => scan_eof_notAStream hff (by omega)) rest
    exact ⟨t, hcall, hstate⟩

end Sys2Proof.Machine
end


section
/-! SUPPORT. The hazards of spec 70_reset_and_hazards.md: a request whose source never answers (R247, R61). -/

namespace Sys2Proof.Machine

/-- A state that a step answers unchanged is what every number of steps answers. -/
theorem run_of_step_self {s : State} (h : step s = .next s) (k : Nat) : Host.Core.run Sys2Proof.core k s = .next s := by
  induction k with
  | zero => rfl
  | succ k ih => rw [run_succ h, ih]

/-- With nothing at the ports a step runs NOP in the state as it is, inside a request or not (R61, R180). -/
theorem step_stalled {s : State} (hwire : s.waitingHeader = none) (hsource : s.source = []) (hin : s.inputs = []) :
    step s = .next s := by
  rw [step, fetch_noInput hwire hin, fetchSymbol_of_idle (.inr (.inr hsource)), nopHasNoEffect]

/-- Settles O36: the stalled state is a fixed point of the step. -/
theorem stalledRequestWaitsForever : Obligations.StalledRequestWaitsForever := by
  unfold Obligations.StalledRequestWaitsForever
  exact fun _ he hsource hin => run_of_step_self (step_stalled (State.waitingHeader_of_event_none he) hsource hin)

end Sys2Proof.Machine
end
